-- ==== Sys2Proof/Word.lean ====
section
/-! DEFINITION. The bit vectors of the block: bytes, 16-bit values and the 32-bit request word
(spec 00_scope.md R9: every value is unsigned, bit 0 is the least significant bit). -/

namespace Sys2Proof

/-- A u8 (R9): a byte of a frame, a payload, a request or a response. -/
abbrev Byte := BitVec 8

/-- A u16 (R9): the LEN field, the checksum, an entry of the checksum table. -/
abbrev U16 := BitVec 16

/-- The 32-bit host request word and engine step code (30_encoding.md R73, R74). -/
abbrev Word := BitVec 32

end Sys2Proof
end

