-- ==== Sys2Proof/Config.lean ====
section
/-! DEFINITION. What the build fixes (00_scope.md R7, 10_state.md R29), the answers the outside world
gives (42_retry_engine.md R121), and the free values: constants without a body, about which nothing
can be proved, so that a claim holds whatever they are. -/

namespace Sys2Proof

/-- The frame delimiter START (R7). -/
def start : Byte := 0x7E#8

/-- The stuffing escape byte ESC (R7). -/
def esc : Byte := 0x10#8

/-- The index of CMD in an unstuffed frame, CMD_OFFSET (R7, R63). -/
def cmdOffset : Nat := 4

/-- The retry cap MAX_RETRY (R7). -/
def maxRetry : Nat := 10

/-- The longest payload of ENQ and ENCODE, MAX_PAYLOAD (R7, R75). -/
def maxPayload : Nat := 255

/-- The longest data part of the other operations, HOST_MAX_DATA (R74). -/
def hostMaxData : Nat := 1024

/-- The treatment of a lone trailing escape, LONE_ESC (R7, R68). -/
inductive LoneEsc where
  | malformed
  | literal
deriving DecidableEq, Repr, Inhabited

/-- A dispatch target (30_encoding.md R78). The reserved code 3 has no constructor. -/
inductive Target where
  | weighment
  | status
  | logOnly
deriving DecidableEq, Repr, Inhabited

/-- The 2-bit code of a target (R78). -/
def Target.code : Target → BitVec 2
  | .weighment => 0#2
  | .status => 1#2
  | .logOnly => 2#2

/-- The target a 2-bit code stands for; the reserved code 3 stands for none (R78). -/
def Target.ofCode (c : BitVec 2) : Option Target :=
  if c = 0#2 then some .weighment
  else if c = 1#2 then some .status
  else if c = 2#2 then some .logOnly
  else none

/-- A table of 256 target codes as a DISPATCH, or none when it holds the reserved code 3, which is
refused at configuration (93_implementation_defined.md I21). -/
def dispatchOfCodes (codes : Vector (BitVec 2) 256) : Option (Vector Target 256) :=
  if h : ∀ i : Fin 256, (Target.ofCode (codes.get i)).isSome then
    some (Vector.ofFn fun i => (Target.ofCode (codes.get i)).get (h i))
  else none

/-- The configuration of 10_state.md R29: read-only state, fixed before the first step. MAX_RETRY and
MAX_PAYLOAD, which R7 gives values, are the constants above; RX_WINDOW and FAIL_PAUSE are timing
only and are not modelled (log 13). -/
structure Config where
  /-- The device address RTU_ID. -/
  rtuId      : Byte
  /-- The checksum table CKSUM_TABLE. -/
  cksumTable : Vector U16 256
  /-- QUEUE_DEPTH; `none` is ∞. -/
  queueDepth : Option Nat
  /-- RX_MAX, the size of one read. -/
  rxMax      : Nat
  /-- DISPATCH, the target of every command id. -/
  dispatch   : Vector Target 256
  /-- LONE_ESC. -/
  loneEsc    : LoneEsc
  /-- GEN_W, the width of the generation counter; `none` is ∞. -/
  genW       : Option Nat
deriving DecidableEq, Repr

/-- The property CKSUM_PERM (40_codec.md R97): the high bytes of the table's 256 entries are a
permutation of 0..255, that is, no two entries share one. -/
def Config.cksumPerm (c : Config) : Prop :=
  ∀ i j : Fin 256,
    (c.cksumTable.get i).extractLsb' 8 8 = (c.cksumTable.get j).extractLsb' 8 8 → i = j

/-- What `TxWrite` answers (42_retry_engine.md R121). -/
inductive TxAnswer where
  | ok
  | exc
  | lost
deriving DecidableEq, Repr, Inhabited

/-- What `RxRead` answers (R121). -/
inductive RxAnswer where
  | bytes (b : List Byte)
  | exc
  | lost
deriving DecidableEq, Repr, Inhabited

/-- The value DIAG_IN carries, opaque to the block (10_state.md R31); held as bytes (log 3). -/
abbrev Diag := List Byte

/-- Who moves next (00_scope.md R6, 20_memory.md R54; log 1). -/
inductive Turn where
  /-- A producer, or the collaborator, issues a serialised host request (30_encoding.md R82). -/
  | request (bytes : List Byte)
  /-- The `k`-th producer held in ENQ tries again (41_scheduler.md R107; log 8). -/
  | retry (k : Nat)
  /-- The drain engine takes the step its state enables (42_retry_engine.md R110). -/
  | engine
  /-- A raw buffer and an expected command id are handed to the token reader (log 6). -/
  | load (exp : Byte) (raw : List Byte)
  /-- The token reader takes its next token, or checks the frame it has unstuffed (log 6). -/
  | wire
deriving DecidableEq, Repr, Inhabited

/-- FREE VALUE: the agent that moves when the schedule lists none (log 1). -/
opaque Config.freeTurn : Nat → Turn

/-- FREE VALUE: the answer of a write when none is listed (log 2). -/
opaque Config.freeTx : Nat → TxAnswer

/-- FREE VALUE: the answer of a read when none is listed (log 2). -/
opaque Config.freeRx : Nat → RxAnswer

/-- FREE VALUE: what DIAG_IN carries when no value is listed (log 3). -/
opaque Config.freeDiag : Nat → Diag

/-- FREE VALUE: the RTU_ID the build supplies (92_eei_decisions.md D13; log 4). -/
opaque Config.builtRtuId : Byte

/-- FREE VALUE: the CKSUM_TABLE the build supplies (D12; log 4). -/
opaque Config.builtCksumTable : Vector U16 256

/-- FREE VALUE: the DISPATCH the build supplies (D14; log 4). -/
opaque Config.builtDispatch : Vector Target 256

/-- The configuration at power-on: the open parameters are whatever the build supplies (R36), the
others the defaults of R7 (log 4). -/
def Config.built : Config where
  rtuId      := Config.builtRtuId
  cksumTable := Config.builtCksumTable
  queueDepth := none
  rxMax      := 523
  dispatch   := Config.builtDispatch
  loneEsc    := .malformed
  genW       := none

end Sys2Proof
end

