-- ==== Sys2Proof/Syntax.lean ====
section
/-! DEFINITION. The instructions: one constructor per row of spec/opcode_table.json (9 host
operations, 5 engine steps, 5 wire tokens, the frame), the four formats of the table, and the names
under which a decoder rejects bytes. -/

namespace Sys2Proof

/-- The two tiers (30_encoding.md R77). -/
inductive Prio where
  | high
  | low
deriving DecidableEq, Repr, Inhabited

/-- The bit of a tier: HIGH is 0, LOW is 1 (R77). -/
def Prio.bit : Prio → BitVec 1
  | .high => 0#1
  | .low => 1#1

/-- One constructor per row of the opcode table. -/
inductive Instr where
  /-- ENQ (41_scheduler.md R101): priority, command id, payload. -/
  | enq (p : Prio) (cmd : Byte) (payload : List Byte)
  /-- CLR (R102). -/
  | clr
  /-- STAT (R104). -/
  | stat
  /-- RST (42_retry_engine.md R119). -/
  | rst
  /-- CKSUM (40_codec.md R85): the bytes. -/
  | cksum (d : List Byte)
  /-- STUFF (R86): the bytes. -/
  | stuff (x : List Byte)
  /-- UNSTUFF (R87): the raw bytes. -/
  | unstuff (r : List Byte)
  /-- ENCODE (R88): command id, payload. -/
  | encode (cmd : Byte) (payload : List Byte)
  /-- DECODE (R89): expected command id, raw bytes. -/
  | decode (exp : Byte) (raw : List Byte)
  /-- DEQ (41_scheduler.md R103). -/
  | deq
  /-- WRITE (42_retry_engine.md R112). -/
  | write
  /-- RECV (R113). -/
  | recv
  /-- COMPLETE (R116). -/
  | complete
  /-- RESUME (R117). -/
  | resume
  /-- ESC_START (30_encoding.md R68): the pair `10 7E`. -/
  | escStart
  /-- ESC_ESC (R68): the pair `10 10`. -/
  | escEsc
  /-- ESC_OTHER (R68): `10` before the ordinary byte `b`. -/
  | escOther (b : Byte)
  /-- ESC_LONE (R68): `10` as the last raw byte. -/
  | escLone
  /-- BYTE (R68): any byte other than `10`. -/
  | byte (b : Byte)
  /-- FRAME (R63): the fields of an unstuffed frame after START. -/
  | frame (rtu : Byte) (len : U16) (cmd : Byte) (payload : List Byte) (ck : U16)
deriving DecidableEq, Repr

/-- The column `format` of the opcode table: which reader an encoding belongs to. -/
inductive Format where
  | host
  | engineStep
  | wireToken
  | wireFrame
deriving DecidableEq, Repr

/-- The format of each row of the table. -/
def Instr.format : Instr → Format
  | .enq _ _ _ | .clr | .stat | .rst | .cksum _ | .stuff _ | .unstuff _ | .encode _ _
  | .decode _ _ => .host
  | .deq | .write | .recv | .complete | .resume => .engineStep
  | .escStart | .escEsc | .escOther _ | .escLone | .byte _ => .wireToken
  | .frame _ _ _ _ _ => .wireFrame

/-- The nine host operations, as the OP field selects them (30_encoding.md R74). -/
inductive HostOp where
  | enq
  | clr
  | stat
  | rst
  | cksum
  | stuff
  | unstuff
  | encode
  | decode
deriving DecidableEq, Repr

/-- Why bytes are no instruction. -/
inductive Reject where
  /-- REQ_ILLEGAL (R80). -/
  | illegal
  /-- REQ_TOO_LONG (R75). -/
  | tooLong
  /-- No engine step has this code (R74). -/
  | noStep
  /-- There is no raw byte left to read (R87). -/
  | noToken
  /-- The unstuffed bytes do not begin with START (R63). -/
  | noStart
  /-- The unstuffed bytes are fewer than the seven a frame has at least (R64). -/
  | shortFrame
deriving DecidableEq, Repr

end Sys2Proof
end

