-- ==== Sys2Proof/WellFormed.lean ====
section
/-! DEFINITION. Which instructions are well formed: the limits the opcode table and 30_encoding.md
R68, R74 and R75 put on operands. -/

namespace Sys2Proof

/-- The operand limits of the opcode table, row by row. -/
def Instr.wellFormed : Instr → Bool
  | .enq _ _ payload => decide (payload.length ≤ maxPayload)
  | .clr => true
  | .stat => true
  | .rst => true
  | .cksum d => decide (d.length ≤ hostMaxData)
  | .stuff x => decide (x.length ≤ hostMaxData)
  | .unstuff r => decide (r.length ≤ hostMaxData)
  | .encode _ payload => decide (payload.length ≤ maxPayload)
  | .decode _ raw => decide (raw.length ≤ hostMaxData)
  | .deq => true
  | .write => true
  | .recv => true
  | .complete => true
  | .resume => true
  | .escStart => true
  | .escEsc => true
  | .escOther b => decide (b ≠ start ∧ b ≠ esc)
  | .escLone => true
  | .byte b => decide (b ≠ esc)
  | .frame _ len _ payload _ =>
      decide (payload.length ≤ maxPayload ∧ len = BitVec.ofNat 16 (payload.length + 1))

end Sys2Proof
end

