-- ==== Sys2Proof/Decode.lean ====
section
/-! DEFINITION. From bytes to instructions and back (30_encoding.md): the decoder, total on any
bytes and rejecting by name, and the encoder written from the same tables. -/

namespace Sys2Proof

/-! ## Bit fields and byte order (20_memory.md R47, R48: little-endian throughout) -/

/-- Bits 7..0 of a 16-bit value. -/
def loByte (v : U16) : Byte := v.extractLsb' 0 8

/-- Bits 15..8 of a 16-bit value. -/
def hiByte (v : U16) : Byte := v.extractLsb' 8 8

/-- The 16-bit value sent as `lo` then `hi` (R47). -/
def u16Of (lo hi : Byte) : U16 := hi ++ lo

/-- A 16-bit value as bytes, low byte first. -/
def bytesOfU16 (v : U16) : List Byte := [loByte v, hiByte v]

/-- A count as two bytes, low byte first (R48); counts are reported modulo 2^16. -/
def bytesOfCount (n : Nat) : List Byte := bytesOfU16 (BitVec.ofNat 16 n)

/-- The 32-bit word whose bytes are sent in the order `b0 b1 b2 b3` (R48). -/
def wordOf (b0 b1 b2 b3 : Byte) : Word := b3 ++ (b2 ++ (b1 ++ b0))

/-- A 32-bit word as bytes, low byte first (R82). -/
def bytesOfWord (w : Word) : List Byte :=
  [w.extractLsb' 0 8, w.extractLsb' 8 8, w.extractLsb' 16 8, w.extractLsb' 24 8]

/-! ## The host request word (R73, R74, R79, R80) -/

/-- One row of format `host` of the opcode table. -/
structure HostRow where
  mask    : Word
  pattern : Word
  op      : HostOp
deriving DecidableEq, Repr

/-- The rows of format `host` of the opcode table: the mask covers OP and every reserved bit. -/
def hostRows : List HostRow :=
  [ ⟨0xFF00FEFF#32, 0x00000001#32, .enq⟩,
    ⟨0xFFFFFFFF#32, 0x00000002#32, .clr⟩,
    ⟨0xFFFFFFFF#32, 0x00000003#32, .stat⟩,
    ⟨0xFFFFFFFF#32, 0x00000004#32, .rst⟩,
    ⟨0xFFFFFFFF#32, 0x00000010#32, .cksum⟩,
    ⟨0xFFFFFFFF#32, 0x00000011#32, .stuff⟩,
    ⟨0xFFFFFFFF#32, 0x00000012#32, .unstuff⟩,
    ⟨0xFF00FFFF#32, 0x00000013#32, .encode⟩,
    ⟨0xFF00FFFF#32, 0x00000014#32, .decode⟩ ]

/-- The operation a request word spells, if any (R80). -/
def hostOpOf (w : Word) : Option HostOp :=
  (hostRows.find? fun r => w &&& r.mask == r.pattern).map HostRow.op

/-- The field P, bit 8 (R73, R77). -/
def prioOf (w : Word) : Prio := if w.getLsbD 8 then .low else .high

/-- The field C, bits 23..16 (R73). -/
def cmdOf (w : Word) : Byte := w.extractLsb' 16 8

/-- The limit of an operation's data part, or none where it has no data part (R74, R75). -/
def HostOp.limit : HostOp → Option Nat
  | .enq | .encode => some maxPayload
  | .clr | .stat | .rst => none
  | .cksum | .stuff | .unstuff | .decode => some hostMaxData

/-- The instruction an operation makes of the request word and the data part. -/
def HostOp.instr (op : HostOp) (w : Word) (data : List Byte) : Instr :=
  match op with
  | .enq => .enq (prioOf w) (cmdOf w) data
  | .clr => .clr
  | .stat => .stat
  | .rst => .rst
  | .cksum => .cksum data
  | .stuff => .stuff data
  | .unstuff => .unstuff data
  | .encode => .encode (cmdOf w) data
  | .decode => .decode (cmdOf w) data

/-- The data part of a request (R75): the count against its limit first, then its completeness (R80).
Bytes after a complete data part are not looked at (log 12). -/
def decodeData (op : HostOp) (w : Word) (limit : Nat) (rest : List Byte) : Except Reject Instr :=
  match rest with
  | n0 :: n1 :: data =>
      let n := (u16Of n0 n1).toNat
      if limit < n then .error .tooLong
      else if data.length < n then .error .illegal
      else .ok (op.instr w (data.take n))
  | _ => .error .illegal

/-- A serialised host request (R82): the word first, then the data part, in the order of R80. A
request that ends before its word does is illegal (log 12). -/
def decodeHost (bytes : List Byte) : Except Reject Instr :=
  match bytes with
  | b0 :: b1 :: b2 :: b3 :: rest =>
      let w := wordOf b0 b1 b2 b3
      match hostOpOf w with
      | none => .error .illegal
      | some op =>
          match op.limit with
          | none => .ok (op.instr w [])
          | some limit => decodeData op w limit rest
  | _ => .error .illegal

/-! ## Engine step codes (R74) -/

/-- The rows of format `engine_step` of the opcode table. -/
def stepRows : List (Word × Instr) :=
  [ (0x00000080#32, .deq), (0x00000081#32, .write), (0x00000082#32, .recv),
    (0x00000083#32, .complete), (0x00000084#32, .resume) ]

/-- The engine step a code names, if any. -/
def stepOfCode (w : Word) : Option Instr :=
  (stepRows.find? fun r => w == r.1).map Prod.snd

/-- An engine step code serialised as a word. -/
def decodeStep (bytes : List Byte) : Except Reject Instr :=
  match bytes with
  | b0 :: b1 :: b2 :: b3 :: _ =>
      match stepOfCode (wordOf b0 b1 b2 b3) with
      | some i => .ok i
      | none => .error .noStep
  | _ => .error .noStep

/-! ## Wire tokens (R68, decoder side) -/

/-- The token at the head of the raw bytes: the first row of R68 that matches. -/
def decodeToken (raw : List Byte) : Except Reject Instr :=
  match raw with
  | [] => .error .noToken
  | [b] => if b = esc then .ok .escLone else .ok (.byte b)
  | b :: c :: _ =>
      if b = esc then
        if c = start then .ok .escStart
        else if c = esc then .ok .escEsc
        else .ok (.escOther c)
      else .ok (.byte b)

/-! ## The unstuffed frame (R63) -/

/-- The fields of an unstuffed frame. LEN is an operand like the others: whether it is right is for
the checks of 40_codec.md R89 to say. -/
def decodeFrameBytes (f : List Byte) : Except Reject Instr :=
  match f with
  | s :: rtu :: l0 :: l1 :: cmd :: tail =>
      if s ≠ start then .error .noStart
      else if tail.length < 2 then .error .shortFrame
      else
        .ok (.frame rtu (u16Of l0 l1) cmd (tail.take (tail.length - 2))
          (u16Of (tail.getD (tail.length - 2) 0#8) (tail.getD (tail.length - 1) 0#8)))
  | _ => .error .shortFrame

/-- The decoder of each format. -/
def decode : Format → List Byte → Except Reject Instr
  | .host, bytes => decodeHost bytes
  | .engineStep, bytes => decodeStep bytes
  | .wireToken, bytes => decodeToken bytes
  | .wireFrame, bytes => decodeFrameBytes bytes

/-! ## The encoder -/

/-- A host request with a data part (R75, R82). -/
def encodeRequest (w : Word) (data : List Byte) : List Byte :=
  bytesOfWord w ++ bytesOfCount data.length ++ data

/-- The request word with the command id in C (R73, R82). -/
def wordWithCmd (op : Word) (cmd : Byte) : Word := op ||| (cmd.setWidth 32 <<< 16)

/-- The bytes of an unstuffed frame with these fields (R63). -/
def frameBytes (rtu : Byte) (len : U16) (cmd : Byte) (payload : List Byte) (ck : U16) : List Byte :=
  [start, rtu, loByte len, hiByte len, cmd] ++ payload ++ bytesOfU16 ck

/-- The bytes of an instruction. -/
def encode : Instr → List Byte
  | .enq p cmd payload =>
      encodeRequest (wordWithCmd (0x00000001#32 ||| (p.bit.setWidth 32 <<< 8)) cmd) payload
  | .clr => bytesOfWord 0x00000002#32
  | .stat => bytesOfWord 0x00000003#32
  | .rst => bytesOfWord 0x00000004#32
  | .cksum d => encodeRequest 0x00000010#32 d
  | .stuff x => encodeRequest 0x00000011#32 x
  | .unstuff r => encodeRequest 0x00000012#32 r
  | .encode cmd payload => encodeRequest (wordWithCmd 0x00000013#32 cmd) payload
  | .decode exp raw => encodeRequest (wordWithCmd 0x00000014#32 exp) raw
  | .deq => bytesOfWord 0x00000080#32
  | .write => bytesOfWord 0x00000081#32
  | .recv => bytesOfWord 0x00000082#32
  | .complete => bytesOfWord 0x00000083#32
  | .resume => bytesOfWord 0x00000084#32
  | .escStart => [esc, start]
  | .escEsc => [esc, esc]
  | .escOther b => [esc, b]
  | .escLone => [esc]
  | .byte b => [b]
  | .frame rtu len cmd payload ck => frameBytes rtu len cmd payload ck

/-! ## The opcode table's numbering -/

/-- The low `n` bytes of a number, least significant first. -/
def bytesLE : Nat → Nat → List Byte
  | 0, _ => []
  | n + 1, w => BitVec.ofNat 8 w :: bytesLE n (w / 256)

/-- The bytes of a table row's number and the format that reads them. A 32-bit row is a host word or
a step code, low byte first (R48), followed by a count of zero. An 8- or 16-bit row is a wire token,
whose first byte is the high one (the table's `match` 0x107E is the pair `10 7E`; log 16). A longer
row is an unstuffed frame, first byte lowest. -/
def tableBytes (nbits w : Nat) : Format × List Byte :=
  if nbits ≤ 8 then (.wireToken, [BitVec.ofNat 8 w])
  else if nbits ≤ 16 then (.wireToken, [BitVec.ofNat 8 (w / 256), BitVec.ofNat 8 w])
  else if nbits ≤ 32 then
    ((if (stepOfCode (BitVec.ofNat 32 w)).isSome then .engineStep else .host),
      bytesLE 4 w ++ bytesOfCount 0)
  else (.wireFrame, bytesLE (max 7 ((nbits + 7) / 8)) w)

/-- The instruction the decoder reads from an instruction whose bits are `w`, numbered as the opcode
table numbers them. -/
def decodeTableWord (nbits w : Nat) : Option Instr :=
  match decode (tableBytes nbits w).1 (tableBytes nbits w).2 with
  | .ok i => some i
  | .error _ => none

end Sys2Proof
end

