-- ==== Sys2Proof/Machine/State.lean ====
section
/-! DEFINITION. The state of the block (10_state.md), as plain data: every element the spec names, the
inputs it takes draws from, the outputs it makes, and the model's own fields (INVENTORY.md lists
them all with their rules and reset values). -/

namespace Sys2Proof.Machine

/-- The values of S.ST (10_state.md R21). Codes 6 and 7 are never held and have no constructor. -/
inductive EngineState where
  | idle
  | writing
  | await
  | success
  | failed
  | halted
deriving DecidableEq, Repr

/-- The six errors Decode answers with (60_exceptions.md R130, codes 1 to 6). -/
inductive FrameError where
  | headerMismatch
  | rtuMismatch
  | commandMismatch
  | lengthMismatch
  | checksumMismatch
  | malformedFrame
deriving DecidableEq, Repr

/-- The error codes 0 to 9 (R130). Codes 10 to 15 are reserved, never produced, and have no
constructor; `persistentCommFailure` names the event kind and is never held in S.LAST_ERR. -/
inductive ErrCode where
  | none
  | headerMismatch
  | rtuMismatch
  | commandMismatch
  | lengthMismatch
  | checksumMismatch
  | malformedFrame
  | readTimeout
  | transportException
  | persistentCommFailure
deriving DecidableEq, Repr

/-- What Decode answers (40_codec.md R89, R93). -/
inductive DecodeResult where
  | ok (cmd : Byte) (payload : List Byte)
  | error (e : FrameError)
deriving DecidableEq, Repr

/-- A queued or in-flight command (10_state.md R27). -/
structure Entry where
  cmd     : Byte
  payload : List Byte
  prio    : Prio
  gen     : Nat
deriving DecidableEq, Repr

/-- An event of DLOG (10_state.md R30, 42_retry_engine.md R118). -/
structure Dispatch where
  gen     : Nat
  cmd     : Byte
  payload : List Byte
  target  : Target
deriving DecidableEq, Repr

/-- An event of ELOG (10_state.md R30, 42_retry_engine.md R115). -/
structure Pcf where
  gen     : Nat
  cmd     : Byte
  payload : List Byte
  lastErr : ErrCode
  diag    : Diag
deriving DecidableEq, Repr

/-- A call the engine makes on the transport (42_retry_engine.md R121): the bytes it writes, or the
most it reads. -/
inductive LinkCall where
  | write (bytes : List Byte)
  | read (max : Nat)
deriving DecidableEq, Repr

/-- The request of a producer held in ENQ (41_scheduler.md R107). -/
structure HeldEnq where
  prio    : Prio
  cmd     : Byte
  payload : List Byte
deriving DecidableEq, Repr

/-- The local variables of one Unstuff and of the checks after it (40_codec.md R87, R89), which the
wire-token and FRAME rows act on (log 6): the expected command id, the raw bytes from index `i` on,
the bytes emitted so far (`y`), and the answer once there is one. -/
structure Wire where
  exp    : Byte
  raw    : List Byte
  out    : List Byte
  result : Option DecodeResult
deriving DecidableEq, Repr

/-- The state of the block. -/
structure State where
  /-- The configuration (10_state.md R29). -/
  cfg      : Config
  /-- S.ST (R21). -/
  st       : EngineState
  /-- S.CUR (R22). -/
  cur      : Option Entry
  /-- S.FRAME (R23). -/
  frame    : List Byte
  /-- S.FAIL_CNT (R24). -/
  failCnt  : Nat
  /-- S.LAST_ERR (R25). -/
  lastErr  : ErrCode
  /-- S.QH, head first (R26). -/
  qh       : List Entry
  /-- S.QL, head first (R26). -/
  ql       : List Entry
  /-- S.GEN (R28). -/
  gen      : Nat
  /-- DLOG, oldest first (R30). -/
  dlog     : List Dispatch
  /-- ELOG, oldest first (R30). -/
  elog     : List Pcf
  /-- The responses to producers, oldest first (00_scope.md R12, 30_encoding.md R76; log 10). -/
  resp     : List (List Byte)
  /-- The calls made on the transport, oldest first (20_memory.md R59; the model's own, log 11). -/
  link     : List LinkCall
  /-- The producers held in ENQ (41_scheduler.md R107; log 8). -/
  waiting  : List HeldEnq
  /-- The token reader (the model's own, log 6). -/
  wire     : Wire
  /-- The agents' coming moves (the model's own, log 1). -/
  turns    : List Turn
  /-- The coming answers of TxWrite (42_retry_engine.md R121; log 2). -/
  txIn     : List TxAnswer
  /-- The coming answers of RxRead (R121; log 2). -/
  rxIn     : List RxAnswer
  /-- The coming values of DIAG_IN (10_state.md R31; log 3). -/
  diagIn   : List Diag
  /-- The number of draws made so far, to which the free values are applied (logs 1 to 3). -/
  draws    : Nat
deriving DecidableEq, Repr

/-- The reasons the machine stops with a fault. -/
inductive Fault where
  /-- Raised by WRITE in WRITING and by RECV in AWAIT when S.CUR is none, a state that 10_state.md
  R33(ii) calls unreachable (log 14). Safe: no reachable state raises it. -/
  | noCommandInFlight
deriving DecidableEq, Repr

/-- The reasons the machine gives no meaning. -/
inductive Refusal where
  /-- Raised by no arm: every row of the opcode table has its meaning. Safe. -/
  | notModelled (mnemonic : String)
deriving DecidableEq, Repr

/-- The token reader with nothing to read. -/
def Wire.empty : Wire := ⟨0#8, [], [], none⟩

/-- The state after power-on (10_state.md R36, 70_reset_and_hazards.md R150): S.* at its reset values,
the configuration the build supplies, streams with no event yet, no input listed (logs 4 and 5). -/
def State.reset : State where
  cfg      := Config.built
  st       := .idle
  cur      := none
  frame    := []
  failCnt  := 0
  lastErr  := .none
  qh       := []
  ql       := []
  gen      := 0
  dlog     := []
  elog     := []
  resp     := []
  link     := []
  waiting  := []
  wire     := Wire.empty
  turns    := []
  txIn     := []
  rxIn     := []
  diagIn   := []
  draws    := 0

end Sys2Proof.Machine
end

