-- ==== Sys2Proof/Machine/Flags.lean ====
section
/-! DEFINITION. The block has no condition flags (10_state.md R32). Its status values are numbers the
producers read: the codes of the engine state, of the errors and of the responses. -/

namespace Sys2Proof.Machine

/-- The code of S.ST, a 3-bit field (10_state.md R21). -/
def EngineState.code : EngineState → BitVec 3
  | .idle => 0#3
  | .writing => 1#3
  | .await => 2#3
  | .success => 3#3
  | .failed => 4#3
  | .halted => 5#3

/-- The code of an error, a 4-bit field (60_exceptions.md R130). -/
def ErrCode.code : ErrCode → BitVec 4
  | .none => 0#4
  | .headerMismatch => 1#4
  | .rtuMismatch => 2#4
  | .commandMismatch => 3#4
  | .lengthMismatch => 4#4
  | .checksumMismatch => 5#4
  | .malformedFrame => 6#4
  | .readTimeout => 7#4
  | .transportException => 8#4
  | .persistentCommFailure => 9#4

/-- The error code of a frame error (R130). -/
def FrameError.toErr : FrameError → ErrCode
  | .headerMismatch => .headerMismatch
  | .rtuMismatch => .rtuMismatch
  | .commandMismatch => .commandMismatch
  | .lengthMismatch => .lengthMismatch
  | .checksumMismatch => .checksumMismatch
  | .malformedFrame => .malformedFrame

/-- The response byte R of a frame error (30_encoding.md R76). -/
def FrameError.byte (e : FrameError) : Byte := e.toErr.code.setWidth 8

/-- Status OK (R76). -/
def respOk : Byte := 0x00#8

/-- Status REQ_ILLEGAL (R76). -/
def respIllegal : Byte := 0xF0#8

/-- Status REQ_TOO_LONG (R76). -/
def respTooLong : Byte := 0xF1#8

/-- The response to a host request that spells no instruction (R75, R80). -/
def rejectResponse : Reject → List Byte
  | .tooLong => [respTooLong]
  | .illegal | .noStep | .noToken | .noStart | .shortFrame => [respIllegal]

end Sys2Proof.Machine
end

