-- ==== Sys2Proof/Machine/Operands.lean ====
section
/-! DEFINITION. The operand forms: byte sequences under stuffing, checksum and frame layout. The
functions of the frame codec (40_codec.md), which read only their arguments and the configuration.-/

namespace Sys2Proof.Machine

/-! ## Checksum (R85) -/

/-- One round of the loop of R85. -/
def cksumRound (table : Vector U16 256) (c : U16) (b : Byte) : U16 :=
  (hiByte c).setWidth 16 ^^^ table.get (loByte c ^^^ b).toFin

/-- The loop of R85 run from `c` (R98). -/
def cksumFrom (table : Vector U16 256) (c : U16) (d : List Byte) : U16 :=
  d.foldl (cksumRound table) c

/-- `Checksum(d)`, seeded at 0 (R85). -/
def checksum (cfg : Config) (d : List Byte) : U16 := cksumFrom cfg.cksumTable 0#16 d

/-! ## Byte-stuffing (R86, R87) -/

/-- A byte the stuffing escapes (30_encoding.md R67). -/
def isSpecial (b : Byte) : Bool := b == start || b == esc

/-- The stuffed bytes of one byte at an index of at least 1 (30_encoding.md R68, encoder side). -/
def stuffByte (b : Byte) : List Byte := if isSpecial b then [esc, b] else [b]

/-- `Stuff(x)` (R86): index 0 is never escaped. -/
def stuffBytes : List Byte → List Byte
  | [] => []
  | b :: rest => b :: rest.flatMap stuffByte

/-- `Unstuff(r)` (R87): an escape pair collapses, a lone trailing escape is LONE_ESC's, every other
byte passes. -/
def unstuffBytes (lone : LoneEsc) : List Byte → Except FrameError (List Byte)
  | [] => .ok []
  | [b] =>
      if b = esc then
        match lone with
        | .malformed => .error .malformedFrame
        | .literal => .ok [esc]
      else .ok [b]
  | b :: c :: rest =>
      if b = esc ∧ (c = start ∨ c = esc) then (unstuffBytes lone rest).map (c :: ·)
      else (unstuffBytes lone (c :: rest)).map (b :: ·)

/-! ## Frames (R88, R89) -/

/-- The checksummed prefix of a frame (R88). -/
def framePrefix (cfg : Config) (cmd : Byte) (payload : List Byte) : List Byte :=
  [start, cfg.rtuId] ++ bytesOfCount (payload.length + 1) ++ [cmd] ++ payload

/-- The unstuffed frame (30_encoding.md R63). -/
def plainFrame (cfg : Config) (cmd : Byte) (payload : List Byte) : List Byte :=
  framePrefix cfg cmd payload ++ bytesOfU16 (checksum cfg (framePrefix cfg cmd payload))

/-- `Encode(cmd, p)` (R88). -/
def encodeFrame (cfg : Config) (cmd : Byte) (payload : List Byte) : List Byte :=
  stuffBytes (plainFrame cfg cmd payload)

/-- The LEN field of an unstuffed frame of at least four bytes (30_encoding.md R65). -/
def lenField (f : List Byte) : Nat := (u16Of (f.getD 2 0#8) (f.getD 3 0#8)).toNat

/-- The checksum field of an unstuffed frame whose LEN is `len` (30_encoding.md R66). -/
def cksumField (f : List Byte) (len : Nat) : U16 :=
  u16Of (f.getD (cmdOffset + len) 0#8) (f.getD (cmdOffset + len + 1) 0#8)

/-- The checks (a) to (e) of R89 on an unstuffed frame, in their order; a short frame fails before
(c) (R90), a LEN of 0 fails (d) (R91). -/
def checkFrame (cfg : Config) (exp : Byte) (f : List Byte) : DecodeResult :=
  if f[0]? ≠ some start then .error .headerMismatch
  else if f[1]? ≠ some cfg.rtuId then .error .rtuMismatch
  else if f.length < 5 then .error .lengthMismatch
  else if f[cmdOffset]? ≠ some exp then .error .commandMismatch
  else if lenField f < 1 ∨ f.length ≠ cmdOffset + lenField f + 2 then .error .lengthMismatch
  else if cksumField f (lenField f) ≠ checksum cfg (f.take (cmdOffset + lenField f)) then
    .error .checksumMismatch
  else .ok (f.getD cmdOffset 0#8) ((f.take (cmdOffset + lenField f)).drop (cmdOffset + 1))

/-- `Decode(raw, exp)` (R89): the whole buffer is unstuffed first, index 0 included (R92). -/
def decodeFrame (cfg : Config) (raw : List Byte) (exp : Byte) : DecodeResult :=
  match unstuffBytes cfg.loneEsc raw with
  | .error e => .error e
  | .ok f => checkFrame cfg exp f

end Sys2Proof.Machine
end

