-- ==== Sys2Proof/Machine/Ops.lean ====
section
/-! DEFINITION. The named operations over the state that the meanings are made of: responses, the
queues, the draws from the outside world, failure accounting (the counterpart of taking an exception,
60_exceptions.md R135) and the returns from it, reset, and the token reader. -/

namespace Sys2Proof.Machine

/-! ## Responses -/

/-- Answer the producer whose request is being executed (30_encoding.md R76). -/
def State.respond (s : State) (r : List Byte) : State := { s with resp := s.resp ++ [r] }

/-! ## The queues (10_state.md R26) -/

/-- The FIFO of a tier. -/
def State.tier (s : State) : Prio → List Entry
  | .high => s.qh
  | .low => s.ql

/-- A tier that holds QUEUE_DEPTH entries (41_scheduler.md R107). -/
def State.tierFull (s : State) (p : Prio) : Bool :=
  match s.cfg.queueDepth with
  | none => false
  | some depth => (s.tier p).length == depth

/-- QPush: append an entry at the tail of its tier (00_scope.md R11). -/
def State.push (s : State) (e : Entry) : State :=
  match e.prio with
  | .high => { s with qh := s.qh ++ [e] }
  | .low => { s with ql := s.ql ++ [e] }

/-- Hold a producer whose tier is full (41_scheduler.md R107; log 8). -/
def State.park (s : State) (h : HeldEnq) : State := { s with waiting := s.waiting ++ [h] }

/-- Take the `k`-th held producer out of the held ones, to try again (log 8). -/
def State.unpark (s : State) (k : Nat) : State := { s with waiting := s.waiting.eraseIdx k }

/-- The generation after one more CLR (10_state.md R28, 41_scheduler.md R102). -/
def nextGen (cfg : Config) (gen : Nat) : Nat :=
  match cfg.genW with
  | none => gen + 1
  | some w => (gen + 1) % 2 ^ w

/-- Empty both tiers and count the CLR (41_scheduler.md R102). -/
def State.clearQueues (s : State) : State :=
  { s with qh := [], ql := [], gen := nextGen s.cfg s.gen }

/-- The entry DEQ takes and the two tiers without it: HIGH first, the head of a tier (R103). -/
def State.pop? (s : State) : Option (Entry × List Entry × List Entry) :=
  match s.qh, s.ql with
  | e :: qh, ql => some (e, qh, ql)
  | [], e :: ql => some (e, [], ql)
  | [], [] => none

/-- Put a command in flight: the frame is encoded once (R103, 20_memory.md R61). -/
def State.launch (s : State) (e : Entry) (qh ql : List Entry) : State :=
  { s with qh := qh, ql := ql, cur := some e, frame := encodeFrame s.cfg e.cmd e.payload,
           lastErr := .none, st := .writing }

/-! ## Draws (42_retry_engine.md R121, 10_state.md R31) -/

/-- The answer the next TxWrite gets: the first one listed, else a free one (log 2). -/
def State.txAnswer (s : State) : TxAnswer :=
  match s.txIn with
  | a :: _ => a
  | [] => Config.freeTx s.draws

/-- TxWrite of S.FRAME: the call is made and its answer used up. -/
def State.didWrite (s : State) : State :=
  { s with link := s.link ++ [.write s.frame], txIn := s.txIn.tail, draws := s.draws + 1 }

/-- An answer of at most `max` bytes (R121). -/
def clipRx (max : Nat) : RxAnswer → RxAnswer
  | .bytes b => .bytes (b.take max)
  | .exc => .exc
  | .lost => .lost

/-- The answer the next RxRead gets: the first one listed, else a free one, never more than RX_MAX
bytes (R121; log 2). -/
def State.rxAnswer (s : State) : RxAnswer :=
  clipRx s.cfg.rxMax
    (match s.rxIn with
    | a :: _ => a
    | [] => Config.freeRx s.draws)

/-- RxRead of RX_MAX: the call is made and its answer used up. -/
def State.didRead (s : State) : State :=
  { s with link := s.link ++ [.read s.cfg.rxMax], rxIn := s.rxIn.tail, draws := s.draws + 1 }

/-- What DIAG_IN carries at the next sample: the first value listed, else a free one (log 3). -/
def State.diagSample (s : State) : Diag :=
  match s.diagIn with
  | d :: _ => d
  | [] => Config.freeDiag s.draws

/-- DIAG_IN was sampled. -/
def State.didSample (s : State) : State :=
  { s with diagIn := s.diagIn.tail, draws := s.draws + 1 }

/-! ## Failure accounting and the returns (42_retry_engine.md R114 to R120) -/

/-- The attempt failed with `err`: count it and record its code (R114, 60_exceptions.md R131). -/
def State.countFailure (s : State) (err : ErrCode) : State :=
  { s with failCnt := s.failCnt + 1, lastErr := err }

/-- The retry budget is exhausted: sample DIAG_IN, emit PCF for the command in flight, enter FAILED
(R114, R115). -/
def State.exhaust (s : State) (e : Entry) (err : ErrCode) : State :=
  { s.didSample with elog := s.elog ++ [⟨e.gen, e.cmd, e.payload, err, s.diagSample⟩], st := .failed }

/-- Back to WRITING, to write the same frame again at once (R114). -/
def State.retryWrite (s : State) : State := { s with st := .writing }

/-- `Fail(err)` for the command `e` in flight (R114): failure entry, the block's counterpart of taking
an exception (60_exceptions.md R135). -/
def State.failAttempt (s : State) (e : Entry) (err : ErrCode) : State :=
  if (s.countFailure err).failCnt < maxRetry then (s.countFailure err).retryWrite
  else (s.countFailure err).exhaust e err

/-- The write answered Ok: wait for the response (R112). -/
def State.awaitResponse (s : State) : State := { s with st := .await }

/-- The response decoded: reset the counter, emit Dispatch, enter SUCCESS (R113, R118). -/
def State.succeed (s : State) (e : Entry) (cmd : Byte) (payload : List Byte) : State :=
  { s with failCnt := 0, dlog := s.dlog ++ [⟨e.gen, cmd, payload, s.cfg.dispatch.get cmd.toFin⟩],
           st := .success }

/-- The transport handle is lost: everything but the state is kept (R120). -/
def State.halt (s : State) : State := { s with st := .halted }

/-- Release the command in flight (R116). -/
def State.release (s : State) : State := { s with cur := none, frame := [], st := .idle }

/-- The return from exhaustion (R117, 60_exceptions.md R136): the command is discarded and the counter
reset. -/
def State.resumeDrain (s : State) : State := { s.release with failCnt := 0 }

/-- Every element of S.* takes its reset value (R119, 10_state.md R36); the configuration, the streams
and everything outside S.* stay. -/
def State.resetBlock (s : State) : State :=
  { s with st := .idle, cur := none, frame := [], failCnt := 0, lastErr := .none, qh := [],
           ql := [], gen := 0 }

/-! ## The token reader (log 6) -/

/-- Hand the reader a raw buffer and the expected command id. -/
def State.loadWire (s : State) (exp : Byte) (raw : List Byte) : State :=
  { s with wire := ⟨exp, raw, [], none⟩ }

/-- A token emits one byte and consumes `n` raw bytes (30_encoding.md R68). -/
def State.emitToken (s : State) (b : Byte) (n : Nat) : State :=
  { s with wire := { s.wire with raw := s.wire.raw.drop n, out := s.wire.out ++ [b] } }

/-- The lone trailing escape is malformed: it is consumed and the reading ends (R68, R87). -/
def State.malformedToken (s : State) : State :=
  { s with wire := { s.wire with raw := s.wire.raw.drop 1,
                                 result := some (.error .malformedFrame) } }

/-- The unstuffed frame `f` is checked against the expected command id (40_codec.md R89). -/
def State.checkWire (s : State) (f : List Byte) : State :=
  { s with wire := { s.wire with result := some (checkFrame s.cfg s.wire.exp f) } }

end Sys2Proof.Machine
end

