-- ==== Sys2Proof/Machine/Codec.lean ====
section
/-! DEFINITION. The codec functions as host operations (40_codec.md R85 to R89): each answers its
producer and writes no state (R99). A data part over its limit is answered REQ_TOO_LONG
(30_encoding.md R75). -/

namespace Sys2Proof.Machine

/-- CKSUM (R85): the checksum of the bytes, low byte first. -/
def execCksum (d : List Byte) (s : State) : Host.Outcome State Fault Refusal :=
  .next (s.respond
    (if hostMaxData < d.length then [respTooLong] else respOk :: bytesOfU16 (checksum s.cfg d)))

/-- STUFF (R86): the count, then the stuffed bytes. -/
def execStuff (x : List Byte) (s : State) : Host.Outcome State Fault Refusal :=
  .next (s.respond
    (if hostMaxData < x.length then [respTooLong]
     else respOk :: bytesOfCount (stuffBytes x).length ++ stuffBytes x))

/-- The response of UNSTUFF after the status: R, the count, the bytes (30_encoding.md R76). -/
def unstuffResponse : Except FrameError (List Byte) → List Byte
  | .ok y => 0x00#8 :: bytesOfCount y.length ++ y
  | .error e => e.byte :: bytesOfCount 0

/-- UNSTUFF (R87). -/
def execUnstuff (r : List Byte) (s : State) : Host.Outcome State Fault Refusal :=
  .next (s.respond
    (if hostMaxData < r.length then [respTooLong]
     else respOk :: unstuffResponse (unstuffBytes s.cfg.loneEsc r)))

/-- ENCODE (R88): the count, then the stuffed frame. -/
def execEncode (cmd : Byte) (payload : List Byte) (s : State) : Host.Outcome State Fault Refusal :=
  .next (s.respond
    (if maxPayload < payload.length then [respTooLong]
     else respOk :: bytesOfCount (encodeFrame s.cfg cmd payload).length
       ++ encodeFrame s.cfg cmd payload))

/-- The response of DECODE after the status: R, and on success CMD, the count and the payload
(30_encoding.md R76). -/
def decodeResponse : DecodeResult → List Byte
  | .ok cmd payload => 0x00#8 :: cmd :: bytesOfCount payload.length ++ payload
  | .error e => [e.byte]

/-- DECODE (R89). -/
def execDecode (exp : Byte) (raw : List Byte) (s : State) : Host.Outcome State Fault Refusal :=
  .next (s.respond
    (if hostMaxData < raw.length then [respTooLong]
     else respOk :: decodeResponse (decodeFrame s.cfg raw exp)))

end Sys2Proof.Machine
end

