-- ==== Sys2Proof/Machine/Engine.lean ====
section
/-! DEFINITION. The transport retry engine (42_retry_engine.md): WRITE, RECV, COMPLETE, RESUME, and
RST. A step that is not enabled leaves the state as it is (log 9). -/

namespace Sys2Proof.Machine

/-- What follows the transport's answer to a write (R112), for the command `e` in flight. -/
def afterWrite (e : Entry) (a : TxAnswer) (s : State) : State :=
  match a with
  | .ok => s.awaitResponse
  | .exc => s.failAttempt e .transportException
  | .lost => s.halt

/-- WRITE (R112): enabled in WRITING. -/
def execWrite (s : State) : Host.Outcome State Fault Refusal :=
  if s.st = .writing then
    match s.cur with
    | none => .fault .noCommandInFlight
    | some e => .next (afterWrite e s.txAnswer s.didWrite)
  else .next s

/-- What follows a decode of the bytes read (R113). -/
def afterDecode (e : Entry) (r : DecodeResult) (s : State) : State :=
  match r with
  | .ok cmd payload => s.succeed e cmd payload
  | .error err => s.failAttempt e err.toErr

/-- What follows the transport's answer to a read (R113): no byte is a timeout, any byte goes to
Decode with the id of the command in flight. -/
def afterRead (e : Entry) (a : RxAnswer) (s : State) : State :=
  match a with
  | .lost => s.halt
  | .exc => s.failAttempt e .transportException
  | .bytes [] => s.failAttempt e .readTimeout
  | .bytes (b :: bs) => afterDecode e (decodeFrame s.cfg (b :: bs) e.cmd) s

/-- RECV (R113): enabled in AWAIT. -/
def execRecv (s : State) : Host.Outcome State Fault Refusal :=
  if s.st = .await then
    match s.cur with
    | none => .fault .noCommandInFlight
    | some e => .next (afterRead e s.rxAnswer s.didRead)
  else .next s

/-- COMPLETE (R116): enabled in SUCCESS. -/
def execComplete (s : State) : Host.Outcome State Fault Refusal :=
  .next (if s.st = .success then s.release else s)

/-- RESUME (R117): enabled in FAILED; the pause is the enabling of the step (log 13). -/
def execResume (s : State) : Host.Outcome State Fault Refusal :=
  .next (if s.st = .failed then s.resumeDrain else s)

/-- RST (R119): enabled in every state. -/
def execRst (s : State) : Host.Outcome State Fault Refusal :=
  .next (s.resetBlock.respond [respOk])

end Sys2Proof.Machine
end

