-- ==== Sys2Proof/Machine/Scheduler.lean ====
section
/-! DEFINITION. The command scheduler (41_scheduler.md): ENQ, CLR and STAT, which producers issue in
any engine state (R108), and DEQ, the engine's step. -/

namespace Sys2Proof.Machine

/-- ENQ (R101): the payload's limit first, then the hold of a full tier (R107), then the push of an
entry stamped with S.GEN. -/
def execEnq (p : Prio) (cmd : Byte) (payload : List Byte) (s : State) :
    Host.Outcome State Fault Refusal :=
  .next
    (if maxPayload < payload.length then s.respond [respTooLong]
     else if s.tierFull p then s.park ⟨p, cmd, payload⟩
     else (s.push ⟨cmd, payload, p, s.gen⟩).respond [respOk])

/-- CLR (R102): both tiers emptied, one more generation; the command in flight is not touched. -/
def execClr (s : State) : Host.Outcome State Fault Refusal :=
  .next (s.clearQueues.respond [respOk])

/-- The response of STAT (R104): GEN modulo 2^16, the lengths of the tiers saturating at 65535. -/
def statResponse (s : State) : List Byte :=
  [respOk, s.st.code.setWidth 8, BitVec.ofNat 8 s.failCnt, s.lastErr.code.setWidth 8]
    ++ bytesOfCount s.gen
    ++ bytesOfCount (min s.qh.length 65535)
    ++ bytesOfCount (min s.ql.length 65535)
    ++ (match s.cur with
        | some e => [0x01#8, e.cmd]
        | none => [0x00#8, 0x00#8])

/-- STAT (R104). -/
def execStat (s : State) : Host.Outcome State Fault Refusal := .next (s.respond (statResponse s))

/-- DEQ (R103): enabled in IDLE with a command queued; held in IDLE with none; not enabled elsewhere.
A held or not enabled step leaves the state as it is (log 9). -/
def execDeq (s : State) : Host.Outcome State Fault Refusal :=
  .next
    (if s.st = .idle then
      match s.pop? with
      | some (e, qh, ql) => s.launch e qh ql
      | none => s
     else s)

end Sys2Proof.Machine
end

