-- ==== Sys2Proof/Machine/WireUnit.lean ====
section
/-! DEFINITION. The wire tokens (30_encoding.md R68, decoder side) and the unstuffed frame (R63), as
steps of the token reader: the raw bytes are read left to right, each token emits and consumes what
R68 gives it, and the frame so built is checked (40_codec.md R89). The reader is the model's own view
of one Unstuff and its checks; no element of S.* is read or written by it (log 6). -/

namespace Sys2Proof.Machine

/-- ESC_START: emits `7E`, consumes 2. -/
def execEscStart (s : State) : Host.Outcome State Fault Refusal := .next (s.emitToken start 2)

/-- ESC_ESC: emits `10`, consumes 2. -/
def execEscEsc (s : State) : Host.Outcome State Fault Refusal := .next (s.emitToken esc 2)

/-- ESC_OTHER: emits `10`, consumes 1; the ordinary byte after it is read on its own. -/
def execEscOther (s : State) : Host.Outcome State Fault Refusal := .next (s.emitToken esc 1)

/-- ESC_LONE: MalformedFrame or a literal `10`, as LONE_ESC says. -/
def execEscLone (s : State) : Host.Outcome State Fault Refusal :=
  .next
    (match s.cfg.loneEsc with
     | .malformed => s.malformedToken
     | .literal => s.emitToken esc 1)

/-- BYTE: emits itself, consumes 1. -/
def execByte (b : Byte) (s : State) : Host.Outcome State Fault Refusal := .next (s.emitToken b 1)

/-- FRAME: the unstuffed frame with these fields is checked against the expected command id. -/
def execFrame (rtu : Byte) (len : U16) (cmd : Byte) (payload : List Byte) (ck : U16) (s : State) :
    Host.Outcome State Fault Refusal :=
  .next (s.checkWire (frameBytes rtu len cmd payload ck))

end Sys2Proof.Machine
end

