-- ==== Sys2Proof/Machine/Dispatch.lean ====
section
/-! DEFINITION. The meaning of every instruction, one arm per row of spec/opcode_table.json. -/

namespace Sys2Proof.Machine

/-- The effect of one instruction on the state. -/
def exec (i : Instr) (s : State) : Host.Outcome State Fault Refusal :=
  match i with
  | .enq p cmd payload => Sys2Proof.Machine.execEnq p cmd payload s
  | .clr => Sys2Proof.Machine.execClr s
  | .stat => Sys2Proof.Machine.execStat s
  | .rst => Sys2Proof.Machine.execRst s
  | .cksum d => Sys2Proof.Machine.execCksum d s
  | .stuff x => Sys2Proof.Machine.execStuff x s
  | .unstuff r => Sys2Proof.Machine.execUnstuff r s
  | .encode cmd payload => Sys2Proof.Machine.execEncode cmd payload s
  | .decode exp raw => Sys2Proof.Machine.execDecode exp raw s
  | .deq => Sys2Proof.Machine.execDeq s
  | .write => Sys2Proof.Machine.execWrite s
  | .recv => Sys2Proof.Machine.execRecv s
  | .complete => Sys2Proof.Machine.execComplete s
  | .resume => Sys2Proof.Machine.execResume s
  | .escStart => Sys2Proof.Machine.execEscStart s
  | .escEsc => Sys2Proof.Machine.execEscEsc s
  | .escOther _ => Sys2Proof.Machine.execEscOther s
  | .escLone => Sys2Proof.Machine.execEscLone s
  | .byte b => Sys2Proof.Machine.execByte b s
  | .frame rtu len cmd payload ck => Sys2Proof.Machine.execFrame rtu len cmd payload ck s

end Sys2Proof.Machine
end

