-- ==== Sys2Proof/Machine/Fetch.lean ====
section
/-! DEFINITION. What moves next: the agent (00_scope.md R6), and the instruction its move runs. A host
request is decoded from its bytes, the engine's step from the code its state selects (10_state.md R21:
S.ST plays the role of a program counter), a token from the head of the raw bytes. -/

namespace Sys2Proof.Machine

/-- What a move comes to: an instruction to run at a state, or a state reached without one. -/
inductive Fetched where
  | run (i : Instr) (s : State)
  | settle (s : State)
deriving DecidableEq, Repr

/-- The next move: the first one listed, else a free one (log 1). -/
def State.nextTurn (s : State) : Turn :=
  match s.turns with
  | t :: _ => t
  | [] => Config.freeTurn s.draws

/-- The next move is used up. -/
def State.didTurn (s : State) : State :=
  match s.turns with
  | _ :: rest => { s with turns := rest }
  | [] => { s with draws := s.draws + 1 }

/-- The code of the step the engine's state enables (42_retry_engine.md R110, 30_encoding.md R74);
HALTED enables none. -/
def stepCode : EngineState → Option Word
  | .idle => some 0x00000080#32
  | .writing => some 0x00000081#32
  | .await => some 0x00000082#32
  | .success => some 0x00000083#32
  | .failed => some 0x00000084#32
  | .halted => none

/-- A host request: its instruction, or the response to a request that spells none, which changes
nothing else (30_encoding.md R75, R80). -/
def fetchRequest (bytes : List Byte) (s : State) : Fetched :=
  match decode .host bytes with
  | .ok i => .run i s
  | .error r => .settle (s.respond (rejectResponse r))

/-- The engine's move. -/
def fetchEngine (s : State) : Fetched :=
  match (stepCode s.st).map fun w => decode .engineStep (bytesOfWord w) with
  | some (.ok i) => .run i s
  | _ => .settle s

/-- A held producer's move: its ENQ again (41_scheduler.md R107). -/
def fetchRetry (k : Nat) (s : State) : Fetched :=
  match s.waiting[k]? with
  | some h => .run (.enq h.prio h.cmd h.payload) (s.unpark k)
  | none => .settle s

/-- The token reader's move: the next token; after the last one the frame, or the answer of the checks
where the unstuffed bytes do not have a frame's fields (30_encoding.md R81); nothing once there is an
answer. -/
def fetchWire (s : State) : Fetched :=
  match s.wire.result with
  | some _ => .settle s
  | none =>
      match decode .wireToken s.wire.raw with
      | .ok i => .run i s
      | .error _ =>
          match decode .wireFrame s.wire.out with
          | .ok i => .run i s
          | .error _ => .settle (s.checkWire s.wire.out)

/-- The move of an agent. -/
def fetchTurn (t : Turn) (s : State) : Fetched :=
  match t with
  | .request bytes => fetchRequest bytes s
  | .retry k => fetchRetry k s
  | .engine => fetchEngine s
  | .load exp raw => .settle (s.loadWire exp raw)
  | .wire => fetchWire s

/-- The next move and what it comes to. -/
def fetch (s : State) : Fetched := fetchTurn s.nextTurn s.didTurn

/-! ## Placing a word where the next step fetches (log 15) -/

/-- A command to stand in flight where a state needs one and has none (log 15). -/
def Entry.blank : Entry := ⟨0#8, [], .high, 0⟩

/-- Bring the engine to the state in which it takes a step, as 10_state.md R33 describes that state;
nothing changes when it is there already (log 15). -/
def State.atEngine (s : State) (st : EngineState) : State :=
  let e := s.cur.getD Entry.blank
  if s.st = st then s
  else
    match st with
    | .idle => { s.release with failCnt := 0 }
    | .writing | .await =>
        { s with st := st, cur := some e, frame := encodeFrame s.cfg e.cmd e.payload, failCnt := 0 }
    | .success => { s with st := st, cur := some e, failCnt := 0 }
    | .failed => { s with st := st, cur := some e, failCnt := maxRetry }
    | .halted => s.halt

/-- The engine state that enables the step with this code. -/
def stateOfCode (w : Word) : EngineState :=
  if w = 0x00000080#32 then .idle
  else if w = 0x00000081#32 then .writing
  else if w = 0x00000082#32 then .await
  else if w = 0x00000083#32 then .success
  else .failed

/-- Put an agent's move first in the schedule. -/
def State.firstTurn (s : State) (t : Turn) : State := { s with turns := t :: s.turns }

/-- Place bytes of a format where the next step reads them. -/
def State.placeBytes (s : State) (fmt : Format) (bytes : List Byte) (code : Word) : State :=
  match fmt with
  | .host => s.firstTurn (.request bytes)
  | .engineStep => (s.atEngine (stateOfCode code)).firstTurn .engine
  | .wireToken =>
      { s.firstTurn .wire with wire := { s.wire with raw := bytes, result := none } }
  | .wireFrame =>
      { s.firstTurn .wire with wire := { s.wire with raw := [], out := bytes, result := none } }

end Sys2Proof.Machine
end

