-- ==== Sys2Proof/Machine/Step.lean ====
section
/-! DEFINITION. One step of the whole block: the next agent's move, one atomic transition
(20_memory.md R50). -/

namespace Sys2Proof.Machine

/-- One step. -/
def step (s : State) : Host.Outcome State Fault Refusal :=
  match fetch s with
  | .run i t => exec i t
  | .settle t => .next t

/-- `s` with an instruction of the opcode table placed so that the next step runs exactly it: a host
word as the next request, a step code by bringing the engine to the state that enables it, a token as
the raw bytes, a frame as the unstuffed bytes (log 15). -/
def State.withFetchWord (s : State) (nbits w : Nat) : State :=
  s.placeBytes (tableBytes nbits w).1 (tableBytes nbits w).2 (BitVec.ofNat 32 w)

end Sys2Proof.Machine
end

