-- ==== Sys2Proof/Safety.lean ====
section
/-! DEFINITION. What the spec says of every reachable state (10_state.md R33), and the ends of a run
(42_retry_engine.md R126), in the terms claims use. -/

namespace Sys2Proof

/-- A move that issues a host request. -/
def Turn.isRequest : Turn → Bool
  | .request _ => true
  | .retry _ | .engine | .load _ _ | .wire => false

/-- A move that issues RST (42_retry_engine.md R119). -/
def Turn.asksRst : Turn → Bool
  | .request bytes => decide (decode .host bytes = .ok .rst)
  | .retry _ | .engine | .load _ _ | .wire => false

end Sys2Proof

namespace Sys2Proof.Machine

/-- An entry a queue may hold (10_state.md R27, R33(vi)): its tier's priority, a payload within
MAX_PAYLOAD, a stamp of a generation that has been. -/
structure Entry.Queued (e : Entry) (p : Prio) (gen : Nat) : Prop where
  prio    : e.prio = p
  payload : e.payload.length ≤ maxPayload
  stamp   : e.gen ≤ gen

/-- The invariants of 10_state.md R33, with the bounds of R23, R24, R25 and R26. R33(v) holds by the
type `EngineState`, which has no value of code 6 or 7. -/
structure State.Inv (s : State) : Prop where
  /-- R33(i). -/
  idle     : s.st = .idle → s.cur = none ∧ s.frame = [] ∧ s.failCnt = 0
  /-- R33(ii). -/
  inFlight : s.st = .writing ∨ s.st = .await →
    ∃ e, s.cur = some e ∧ s.frame = encodeFrame s.cfg e.cmd e.payload ∧ s.failCnt < maxRetry
  /-- R33(iii). -/
  success  : s.st = .success → s.cur ≠ none ∧ s.failCnt = 0
  /-- R33(iv). -/
  failed   : s.st = .failed → s.cur ≠ none ∧ s.failCnt = maxRetry
  /-- R33(vi), R27. -/
  high     : ∀ e ∈ s.qh, e.Queued .high s.gen
  /-- R33(vi), R27. -/
  low      : ∀ e ∈ s.ql, e.Queued .low s.gen
  /-- R26. -/
  depth    : ∀ d, s.cfg.queueDepth = some d → s.qh.length ≤ d ∧ s.ql.length ≤ d
  /-- R27, of the command in flight. -/
  payload  : ∀ e, s.cur = some e → e.payload.length ≤ maxPayload
  /-- R23: `S.FRAME` is the frame of `S.CUR`, of at most 523 bytes. -/
  frame    : s.frame.length ≤ 523
  /-- R24. -/
  failCnt  : s.failCnt ≤ maxRetry
  /-- R130: code 9 is never held in S.LAST_ERR. -/
  lastErr  : s.lastErr ≠ .persistentCommFailure

/-- The engine is held in DEQ (41_scheduler.md R103, 00_scope.md R12). -/
def State.engineHeld (s : State) : Prop := s.st = .idle ∧ s.qh = [] ∧ s.ql = []

/-- The engine is halted (R12, 42_retry_engine.md R120). -/
def State.engineHalted (s : State) : Prop := s.st = .halted

/-- `k` steps, each answering a next state. -/
def State.runs : Nat → State → Option State
  | 0, s => some s
  | k + 1, s =>
    match step s with
    | .next t => t.runs k
    | .fault _ | .refused _ => none

/-- The moves of the next `k` steps, listed or free. -/
def State.moves : Nat → State → List Turn
  | 0, _ => []
  | k + 1, s => s.nextTurn ::
    match step s with
    | .next t => t.moves k
    | .fault _ | .refused _ => []

/-- R126(a) over the next `k` steps: the engine is held in DEQ, and no producer has a request in
progress, neither a held one nor one that a move of these steps, listed or free, would issue (log 21). -/
def State.quiescentIdle (k : Nat) (s : State) : Prop :=
  s.engineHeld ∧ s.waiting = [] ∧ ∀ t ∈ s.moves k, t.isRequest = false

/-- R126(b) over the next `k` steps: the engine is halted, and no move of these steps, listed or free,
issues RST; producers may issue anything else. It is no success (log 21). -/
def State.quiescentHalted (k : Nat) (s : State) : Prop :=
  s.engineHalted ∧ ∀ t ∈ s.moves k, t.asksRst = false

/-- The end of a run (R126): (a) or (b) over every number of further steps. -/
def State.quiescent (s : State) : Prop :=
  (∀ k, s.quiescentIdle k) ∨ (∀ k, s.quiescentHalted k)

end Sys2Proof.Machine
end

