-- ==== Sys2Proof/Certificates/Slice0/Obligations.lean ====
section
/-! DEFINITION. The statements for the provers, in the order of the spec: the request encoding, the
codec, the scheduler, the retry engine, the whole machine, the token reader. A statement about a
result gives the whole next state, so it is the instruction's frame and its completion too. -/

namespace Sys2Proof.Claims

open Sys2Proof.Machine

/-! ## The rules' own words, apart from the model's tables -/

/-- The field OP (30_encoding.md R73). -/
def opField (w : Word) : Byte := w.extractLsb' 0 8

/-- The words of 30_encoding.md R79 and of the first two bullets of R80: an operation of R74, and
every reserved bit 0. -/
def legalWord (w : Word) : Prop :=
  opField w ∈ [0x01#8, 0x02#8, 0x03#8, 0x04#8, 0x10#8, 0x11#8, 0x12#8, 0x13#8, 0x14#8] ∧
  w.extractLsb' 9 7 = 0#7 ∧ w.extractLsb' 24 8 = 0#8 ∧
  (opField w ≠ 0x01#8 → w.getLsbD 8 = false) ∧
  (opField w ∉ [0x01#8, 0x13#8, 0x14#8] → w.extractLsb' 16 8 = 0#8)

/-- The limit of the data part, by OP (30_encoding.md R74). -/
def dataLimit (w : Word) : Option Nat :=
  if opField w = 0x01#8 ∨ opField w = 0x13#8 then some 255
  else if opField w = 0x10#8 ∨ opField w = 0x11#8 ∨ opField w = 0x12#8 ∨ opField w = 0x14#8 then
    some 1024
  else none

/-- The loop of 40_codec.md R85 from `c`. -/
def checksumLoop (table : Vector U16 256) (c : U16) : List Byte → U16
  | [] => c
  | b :: d =>
    checksumLoop table
      ((c.extractLsb' 8 8).setWidth 16 ^^^ table.get (c.extractLsb' 0 8 ^^^ b).toFin) d

/-- The prefix `pre` of 40_codec.md R88. -/
def pre (rtu cmd : Byte) (p : List Byte) : List Byte :=
  [0x7E#8, rtu, BitVec.ofNat 8 ((p.length + 1) % 256), BitVec.ofNat 8 ((p.length + 1) / 256), cmd] ++ p

/-- A count or a 16-bit value as two bytes, low byte first. -/
def le16 (n : Nat) : List Byte := [BitVec.ofNat 8 (n % 256), BitVec.ofNat 8 (n / 256 % 256)]

/-- A host request with a data part: the four bytes of the word, low byte first, the count, the bytes
(30_encoding.md R75, R82). -/
def request (b0 b1 b2 b3 : Byte) (data : List Byte) : List Byte :=
  [b0, b1, b2, b3] ++ le16 data.length ++ data

/-- The codes of S.ST (10_state.md R21). -/
def stCode : EngineState → Byte
  | .idle => 0#8
  | .writing => 1#8
  | .await => 2#8
  | .success => 3#8
  | .failed => 4#8
  | .halted => 5#8

/-- The error codes (60_exceptions.md R130). -/
def errCode : ErrCode → Byte
  | .none => 0#8
  | .headerMismatch => 1#8
  | .rtuMismatch => 2#8
  | .commandMismatch => 3#8
  | .lengthMismatch => 4#8
  | .checksumMismatch => 5#8
  | .malformedFrame => 6#8
  | .readTimeout => 7#8
  | .transportException => 8#8
  | .persistentCommFailure => 9#8

/-- A byte that stuffing escapes (30_encoding.md R67). -/
def special (b : Byte) : Prop := b = 0x7E#8 ∨ b = 0x10#8

/-- One failed attempt (42_retry_engine.md R111): `none` is a write exception, `some a` a write
answered Ok and a read answered `a`. -/
abbrev Attempt := Option RxAnswer

/-- The error of an attempt for the command `cmd`, or none where the attempt does not fail (R113). -/
def Attempt.error (cfg : Config) (cmd : Byte) : Attempt → Option ErrCode
  | none => some .transportException
  | some .exc => some .transportException
  | some .lost => none
  | some (.bytes b) =>
    if b.take cfg.rxMax = [] then some .readTimeout
    else
      match decodeFrame cfg (b.take cfg.rxMax) cmd with
      | .error e => some e.toErr
      | .ok _ _ => none

/-- The engine's steps in an attempt: a write exception is not followed by a read (R112). -/
def Attempt.steps : Attempt → Nat
  | none => 1
  | some _ => 2

/-- The write's answer in an attempt. -/
def Attempt.tx : Attempt → TxAnswer
  | none => .exc
  | some _ => .ok

/-- Moves of all the agents in any order (20_memory.md R54), `n` of them the engine's and none a
request for RST. -/
structure Interleaved (n : Nat) (ts : List Turn) : Prop where
  engine : ts.count .engine = n
  noRst  : ∀ t ∈ ts, t.asksRst = false

/-- A state in which the engine is about to make the attempts `as` of the command `e` in the course of
the moves `ts`, which may hold any moves of the other agents but RST; then `tx`, `rx` and `more` say
what follows. The moves and the transport's answers are listed (logs 1 and 2). -/
structure Attempting (s : State) (e : Entry) (as : List Attempt) (tx : List TxAnswer)
    (rx : List RxAnswer) (ts more : List Turn) : Prop where
  st    : s.st = .writing
  cur   : s.cur = some e
  txIn  : s.txIn = as.map Attempt.tx ++ tx
  rxIn  : s.rxIn = as.filterMap id ++ rx
  turns : s.turns = ts ++ more
  moves : Interleaved (as.map Attempt.steps).sum ts

/-- The writes among the calls on the transport. -/
def writes (calls : List LinkCall) : List LinkCall :=
  calls.filter fun c => match c with | .write _ => true | .read _ => false

end Sys2Proof.Claims

open Sys2Proof Sys2Proof.Machine Sys2Proof.Claims

/-! ## Encoding -/

/-- Requests, step codes, tokens and frames written out from the spec's encodings decode to the
instructions they stand for (30_encoding.md R63, R68, R74, R82; 95_test_vectors.md H1, H2, P4). -/
def Obligations.SpelledWordsDecode : Prop :=
  decode .host [0x01#8, 0x01#8, 0x30#8, 0x00#8, 0x00#8, 0x00#8] = .ok (.enq .low 0x30#8 []) ∧
  decode .host [0x01#8, 0x00#8, 0x21#8, 0x00#8, 0x01#8, 0x00#8, 0x05#8]
    = .ok (.enq .high 0x21#8 [0x05#8]) ∧
  decode .host [0x14#8, 0x00#8, 0x21#8, 0x00#8, 0x01#8, 0x00#8, 0x7E#8]
    = .ok (.decode 0x21#8 [0x7E#8]) ∧
  decode .engineStep [0x82#8, 0x00#8, 0x00#8, 0x00#8] = .ok .recv ∧
  decode .host [0x82#8, 0x00#8, 0x00#8, 0x00#8] = .error .illegal ∧
  decode .wireToken [0x10#8, 0x7E#8, 0x41#8] = .ok .escStart ∧
  decode .wireToken [0x10#8, 0x41#8] = .ok (.escOther 0x41#8) ∧
  decode .wireToken [0x10#8] = .ok .escLone ∧
  decode .wireFrame [0x7E#8, 0x01#8, 0x02#8, 0x00#8, 0x21#8, 0x05#8, 0xEE#8, 0x35#8]
    = .ok (.frame 0x01#8 0x0002#16 0x21#8 [0x05#8] 0x35EE#16)

/-- Decoding the encoding of any well-formed instruction gives it back, at every operand
(30_encoding.md R63, R68, R74, R75, R82). -/
def Obligations.DecodeUndoesEncode : Prop :=
  ∀ i : Instr, i.wellFormed = true → decode i.format (encode i) = .ok i

/-- The same of a host request with bytes after it (the model's choice, log 12). -/
def Obligations.BytesAfterARequestAreIgnored : Prop :=
  ∀ (i : Instr) (rest : List Byte), i.wellFormed = true → i.format = .host →
    decode .host (encode i ++ rest) = .ok i

/-- A request word spells an operation exactly when its OP is one of R74's producer codes and every
reserved bit of R79 is 0. -/
def Obligations.HostWordIsLegalIffReservedBitsAreZero : Prop :=
  ∀ w : Word, (hostOpOf w).isSome = true ↔ legalWord w

/-- 30_encoding.md R80 and R75: the word first (REQ_ILLEGAL), then the count against its limit
(REQ_TOO_LONG), then the completeness of the data part (REQ_ILLEGAL); each answer is the only change.
A request that passes all three is decoded; that bytes after a complete request do not matter is the
model's choice (log 12). -/
def Obligations.IllegalRequestsAreAnsweredInOrder : Prop :=
  ∀ (s : State) (more : List Turn) (b0 b1 b2 b3 : Byte) (tail : List Byte),
    s.turns = .request (b0 :: b1 :: b2 :: b3 :: tail) :: more →
    (¬ legalWord (wordOf b0 b1 b2 b3) →
      step s = .next { s with turns := more, resp := s.resp ++ [[0xF0#8]] }) ∧
    (legalWord (wordOf b0 b1 b2 b3) → ∀ limit, dataLimit (wordOf b0 b1 b2 b3) = some limit →
      (tail.length < 2 →
        step s = .next { s with turns := more, resp := s.resp ++ [[0xF0#8]] }) ∧
      (∀ n0 n1 data, tail = n0 :: n1 :: data →
        (limit < n0.toNat + 256 * n1.toNat →
          step s = .next { s with turns := more, resp := s.resp ++ [[0xF1#8]] }) ∧
        (n0.toNat + 256 * n1.toNat ≤ limit → data.length < n0.toNat + 256 * n1.toNat →
          step s = .next { s with turns := more, resp := s.resp ++ [[0xF0#8]] }) ∧
        (n0.toNat + 256 * n1.toNat ≤ limit → n0.toNat + 256 * n1.toNat ≤ data.length →
          ∃ i, decode .host (b0 :: b1 :: b2 :: b3 :: tail) = .ok i ∧ i.wellFormed = true))) ∧
    (legalWord (wordOf b0 b1 b2 b3) → dataLimit (wordOf b0 b1 b2 b3) = none →
      ∃ i, decode .host (b0 :: b1 :: b2 :: b3 :: tail) = .ok i)

/-! ## A step runs the decoded instruction -/

/-- A producer's move runs the instruction its request decodes to, and uses up the move. -/
def Obligations.StepRunsTheDecodedRequest : Prop :=
  ∀ (s : State) (bytes : List Byte) (more : List Turn) (i : Instr),
    s.turns = .request bytes :: more → decode .host bytes = .ok i →
    step s = exec i { s with turns := more }

/-- The engine's move runs the step its state enables (42_retry_engine.md R110), and none in HALTED,
where R110 enables no step: that the move is then a next state which only uses it up is the model's
choice (log 9). -/
def Obligations.StepRunsTheEnabledEngineStep : Prop :=
  ∀ (s : State) (more : List Turn), s.turns = .engine :: more →
    (s.st = .idle → step s = exec .deq { s with turns := more }) ∧
    (s.st = .writing → step s = exec .write { s with turns := more }) ∧
    (s.st = .await → step s = exec .recv { s with turns := more }) ∧
    (s.st = .success → step s = exec .complete { s with turns := more }) ∧
    (s.st = .failed → step s = exec .resume { s with turns := more }) ∧
    (s.st = .halted → step s = .next { s with turns := more })

/-- The token reader's move runs the token at the head of the raw bytes, and after the last one the
frame it has unstuffed (the reader is the model's own, log 6). -/
def Obligations.StepRunsTheTokenOrTheFrame : Prop :=
  ∀ (s : State) (more : List Turn) (i : Instr),
    s.turns = .wire :: more → s.wire.result = none →
    (decode .wireToken s.wire.raw = .ok i → step s = exec i { s with turns := more }) ∧
    (s.wire.raw = [] → decode .wireFrame s.wire.out = .ok i →
      step s = exec i { s with turns := more })

/-! ## The codec -/

/-- CKSUM, encoded as R85 says, answers the checksum R85's loop computes, low byte first, and changes
nothing else. -/
def Obligations.CksumAnswersTheRunningChecksum : Prop :=
  ∀ (s : State) (d : List Byte), d.length ≤ 1024 →
    decode .host (request 0x10#8 0#8 0#8 0#8 d) = .ok (.cksum d) ∧
    exec (.cksum d) s = .next { s with resp := s.resp ++
      [[0x00#8, (checksumLoop s.cfg.cksumTable 0#16 d).extractLsb' 0 8,
        (checksumLoop s.cfg.cksumTable 0#16 d).extractLsb' 8 8]] }

/-- R98: the checksum of a sequence continues from the checksum of its beginning; that of a frame
prefix starts with the table's entry for START. -/
def Obligations.ChecksumContinuesFromAPrefix : Prop :=
  ∀ (cfg : Config) (a b : List Byte),
    checksum cfg (a ++ b) = checksumLoop cfg.cksumTable (checksum cfg a) b ∧
    checksum cfg [0x7E#8] = cfg.cksumTable.get 126

/-- STUFF, encoded as R86 says, answers the count and the stuffed bytes, and changes nothing else. -/
def Obligations.StuffAnswersTheStuffedBytes : Prop :=
  ∀ (s : State) (x : List Byte), x.length ≤ 1024 →
    decode .host (request 0x11#8 0#8 0#8 0#8 x) = .ok (.stuff x) ∧
    ∃ y, exec (.stuff x) s = .next { s with resp := s.resp ++ [0x00#8 :: le16 y.length ++ y] } ∧
      (x = [] → y = []) ∧
      (∀ b rest, x = b :: rest →
        y = b :: (rest.map fun c => if c = 0x7E#8 ∨ c = 0x10#8 then [0x10#8, c] else [c]).flatten)

/-- UNSTUFF, encoded as R87 says, answers R, the count and the unstuffed bytes, or code 6 and a count of
0, and changes nothing else; the unstuffed bytes are given branch by branch of R87's loop. -/
def Obligations.UnstuffAnswersTheUnstuffedBytes : Prop :=
  (∀ (s : State) (r : List Byte), r.length ≤ 1024 →
    decode .host (request 0x12#8 0#8 0#8 0#8 r) = .ok (.unstuff r) ∧
    (∀ y, unstuffBytes s.cfg.loneEsc r = .ok y →
      exec (.unstuff r) s =
        .next { s with resp := s.resp ++ [[0x00#8, 0x00#8] ++ le16 y.length ++ y] }) ∧
    (∀ e, unstuffBytes s.cfg.loneEsc r = .error e →
      exec (.unstuff r) s =
        .next { s with resp := s.resp ++ [[0x00#8, 0x06#8, 0x00#8, 0x00#8]] })) ∧
  (∀ (lone : LoneEsc) (b : Byte) (r : List Byte),
    unstuffBytes lone [] = .ok [] ∧
    unstuffBytes lone (0x10#8 :: 0x7E#8 :: r) = (unstuffBytes lone r).map (0x7E#8 :: ·) ∧
    unstuffBytes lone (0x10#8 :: 0x10#8 :: r) = (unstuffBytes lone r).map (0x10#8 :: ·) ∧
    (b ≠ 0x7E#8 → b ≠ 0x10#8 →
      unstuffBytes lone (0x10#8 :: b :: r) = (unstuffBytes lone (b :: r)).map (0x10#8 :: ·)) ∧
    unstuffBytes .malformed [0x10#8] = .error .malformedFrame ∧
    unstuffBytes .literal [0x10#8] = .ok [0x10#8] ∧
    (b ≠ 0x10#8 → unstuffBytes lone (b :: r) = (unstuffBytes lone r).map (b :: ·)))

/-- ENCODE, encoded as R88 says, answers the count and the stuffed, checksummed frame, and changes
nothing else; a payload over 255 bytes is answered REQ_TOO_LONG. -/
def Obligations.EncodeAnswersTheFrame : Prop :=
  ∀ (s : State) (cmd : Byte) (p : List Byte),
    (p.length ≤ 255 →
      decode .host (request 0x13#8 0#8 cmd 0#8 p) = .ok (.encode cmd p) ∧
      ∃ c y, c = checksumLoop s.cfg.cksumTable 0#16 (pre s.cfg.rtuId cmd p) ∧
        y = stuffBytes (pre s.cfg.rtuId cmd p ++ [c.extractLsb' 0 8, c.extractLsb' 8 8]) ∧
        exec (.encode cmd p) s = .next { s with resp := s.resp ++ [0x00#8 :: le16 y.length ++ y] }) ∧
    (255 < p.length → exec (.encode cmd p) s = .next { s with resp := s.resp ++ [[0xF1#8]] })

/-- 30_encoding.md R69: the length of a stuffed frame. -/
def Obligations.StuffedFrameLength : Prop :=
  ∀ (cfg : Config) (cmd : Byte) (p : List Byte),
    ∃ k, k = ((plainFrame cfg cmd p).tail.filter fun b => b == 0x7E#8 || b == 0x10#8).length ∧
      (encodeFrame cfg cmd p).length = p.length + 7 + k ∧ k ≤ p.length + 6 ∧
      (p.length ≤ 255 → (encodeFrame cfg cmd p).length ≤ 523)

/-- DECODE, encoded as R89 says, answers R, and on success CMD, the count and the payload
(30_encoding.md R76), and changes nothing else. -/
def Obligations.DecodeAnswersTheResult : Prop :=
  ∀ (s : State) (exp : Byte) (raw : List Byte), raw.length ≤ 1024 →
    decode .host (request 0x14#8 0#8 exp 0#8 raw) = .ok (.decode exp raw) ∧
    (∀ cmd p, decodeFrame s.cfg raw exp = .ok cmd p →
      exec (.decode exp raw) s =
        .next { s with resp := s.resp ++ [[0x00#8, 0x00#8, cmd] ++ le16 p.length ++ p] }) ∧
    (∀ e, decodeFrame s.cfg raw exp = .error e →
      ∃ r : Byte, exec (.decode exp raw) s = .next { s with resp := s.resp ++ [[0x00#8, r]] } ∧
        r = match e with
          | .headerMismatch => 1#8
          | .rtuMismatch => 2#8
          | .commandMismatch => 3#8
          | .lengthMismatch => 4#8
          | .checksumMismatch => 5#8
          | .malformedFrame => 6#8)

/-- 60_exceptions.md R133 and 40_codec.md R89 to R91: what Decode answers, the first check that fails
deciding it; `f` is the unstuffed buffer, `len` its LEN field. -/
def Obligations.DecodeChecksInOrder : Prop :=
  ∀ (cfg : Config) (raw : List Byte) (exp : Byte),
    (∀ e, unstuffBytes cfg.loneEsc raw = .error e →
      decodeFrame cfg raw exp = .error .malformedFrame) ∧
    (∀ f, unstuffBytes cfg.loneEsc raw = .ok f →
      (f[0]? ≠ some 0x7E#8 → decodeFrame cfg raw exp = .error .headerMismatch) ∧
      (f[0]? = some 0x7E#8 → f[1]? ≠ some cfg.rtuId →
        decodeFrame cfg raw exp = .error .rtuMismatch) ∧
      (f[0]? = some 0x7E#8 → f[1]? = some cfg.rtuId → f.length < 5 →
        decodeFrame cfg raw exp = .error .lengthMismatch) ∧
      (∀ l0 l1 cmd tail, f = 0x7E#8 :: cfg.rtuId :: l0 :: l1 :: cmd :: tail →
        (cmd ≠ exp → decodeFrame cfg raw exp = .error .commandMismatch) ∧
        (cmd = exp → ∀ len, len = l0.toNat + 256 * l1.toNat →
          (len = 0 ∨ f.length ≠ len + 6 → decodeFrame cfg raw exp = .error .lengthMismatch) ∧
          (∀ p c0 c1, len = p.length + 1 → tail = p ++ [c0, c1] →
            (c1 ++ c0 ≠ checksumLoop cfg.cksumTable 0#16
                (0x7E#8 :: cfg.rtuId :: l0 :: l1 :: cmd :: p) →
              decodeFrame cfg raw exp = .error .checksumMismatch) ∧
            (c1 ++ c0 = checksumLoop cfg.cksumTable 0#16
                (0x7E#8 :: cfg.rtuId :: l0 :: l1 :: cmd :: p) →
              decodeFrame cfg raw exp = .ok exp p)))))

/-- 40_codec.md R94: decoding an encoded frame gives its command and payload back, and expecting
another command gives CommandMismatch, for every configuration. -/
def Obligations.FrameRoundTrip : Prop :=
  ∀ (cfg : Config) (cmd : Byte) (p : List Byte), p.length ≤ 255 →
    decodeFrame cfg (encodeFrame cfg cmd p) cmd = .ok cmd p ∧
    ∀ exp, exp ≠ cmd → decodeFrame cfg (encodeFrame cfg cmd p) exp = .error .commandMismatch

/-- 40_codec.md R95: when unstuffing undoes stuffing, and what happens when it does not. -/
def Obligations.UnstuffUndoesStuff : Prop :=
  (∀ x, unstuffBytes .literal (stuffBytes x) = .ok x) ∧
  (∀ x, (x = [] ∨ ∃ b ∈ x, b ≠ 0x10#8) → unstuffBytes .malformed (stuffBytes x) = .ok x) ∧
  (∀ n, unstuffBytes .malformed (stuffBytes (List.replicate (n + 1) 0x10#8))
    = .error .malformedFrame) ∧
  (∀ lone x, x.head? ≠ some 0x10#8 → unstuffBytes lone (stuffBytes x) = .ok x)

/-- 40_codec.md R97: under CKSUM_PERM every round is a bijection on u16, and two sequences of equal
length that differ in exactly one byte have different checksums. -/
def Obligations.CksumPermDetectsOneByte : Prop :=
  ∀ cfg : Config, cfg.cksumPerm →
    (∀ b : Byte, Function.Bijective fun c : U16 => checksumLoop cfg.cksumTable c [b]) ∧
    ∀ (a d : List Byte) (x y : Byte), x ≠ y →
      checksum cfg (a ++ x :: d) ≠ checksum cfg (a ++ y :: d)

/-- 40_codec.md R96, the cases of an unescaped byte: one byte of an encoded frame outside the checksum
field is changed, neither the old nor the new value being special, and Decode answers the error of
that byte's field. -/
def Obligations.ChangedByteIsDetected : Prop :=
  ∀ (cfg : Config) (cmd : Byte) (p : List Byte) (i : Nat) (old new : Byte), p.length ≤ 255 →
    (plainFrame cfg cmd p)[i]? = some old → new ≠ old →
    (i = 0 → new ≠ 0x10#8 →
      decodeFrame cfg (stuffBytes ((plainFrame cfg cmd p).set i new)) cmd
        = .error .headerMismatch) ∧
    (¬ special old → ¬ special new →
      (i = 1 → decodeFrame cfg (stuffBytes ((plainFrame cfg cmd p).set i new)) cmd
        = .error .rtuMismatch) ∧
      (i = 2 ∨ i = 3 → decodeFrame cfg (stuffBytes ((plainFrame cfg cmd p).set i new)) cmd
        = .error .lengthMismatch) ∧
      (i = 4 → decodeFrame cfg (stuffBytes ((plainFrame cfg cmd p).set i new)) cmd
        = .error .commandMismatch) ∧
      (5 ≤ i → i < 5 + p.length → cfg.cksumPerm →
        decodeFrame cfg (stuffBytes ((plainFrame cfg cmd p).set i new)) cmd
          = .error .checksumMismatch))

/-- 40_codec.md R99: a codec operation, whatever its operands, changes only the stream of responses,
and its response depends on the configuration alone. -/
def Obligations.CodecOperationsWriteNoState : Prop :=
  ∀ (i : Instr),
    ((∃ d, i = .cksum d) ∨ (∃ x, i = .stuff x) ∨ (∃ r, i = .unstuff r) ∨
      (∃ cmd p, i = .encode cmd p) ∨ (∃ e r, i = .decode e r)) →
    ∀ cfg, ∃ r, ∀ s : State, s.cfg = cfg → exec i s = .next { s with resp := s.resp ++ [r] }

/-! ## The scheduler -/

/-- ENQ, encoded as R101 says, with a payload of at most 255 bytes into a tier that is not full pushes
the entry at the tier's tail, stamped with S.GEN, in every engine state (41_scheduler.md R101, R108),
and changes nothing else; a longer payload is answered REQ_TOO_LONG and changes nothing. -/
def Obligations.EnqPushesAtTheTail : Prop :=
  ∀ (s : State) (cmd : Byte) (p : List Byte),
    (p.length ≤ 255 →
      decode .host (request 0x01#8 0x00#8 cmd 0#8 p) = .ok (.enq .high cmd p) ∧
      decode .host (request 0x01#8 0x01#8 cmd 0#8 p) = .ok (.enq .low cmd p)) ∧
    (p.length ≤ 255 → s.cfg.queueDepth ≠ some s.qh.length →
      exec (.enq .high cmd p) s =
        .next { s with qh := s.qh ++ [⟨cmd, p, .high, s.gen⟩], resp := s.resp ++ [[0x00#8]] }) ∧
    (p.length ≤ 255 → s.cfg.queueDepth ≠ some s.ql.length →
      exec (.enq .low cmd p) s =
        .next { s with ql := s.ql ++ [⟨cmd, p, .low, s.gen⟩], resp := s.resp ++ [[0x00#8]] }) ∧
    (255 < p.length → ∀ prio,
      exec (.enq prio cmd p) s = .next { s with resp := s.resp ++ [[0xF1#8]] })

/-- 41_scheduler.md R107: ENQ into a full tier is held, not refused: nothing is answered and no entry is
lost. A CLR lifts the hold, and the producer's next try then enqueues with the new stamp (Q6, Q7). How
held producers are kept and tried again is the model's choice (log 8). -/
def Obligations.FullTierHoldsEnq : Prop :=
  ∀ (s : State) (prio : Prio) (cmd : Byte) (p : List Byte) (d : Nat), p.length ≤ 255 →
    s.cfg.queueDepth = some d → (s.tier prio).length = d → 0 < d → s.waiting = [] →
    exec (.enq prio cmd p) s = .next { s with waiting := [⟨prio, cmd, p⟩] } ∧
    ∀ clr more, decode .host clr = .ok .clr → s.turns = .request clr :: .retry 0 :: more →
      ∃ t, ({ s with waiting := [⟨prio, cmd, p⟩] } : State).runs 2 = some t ∧ t.waiting = [] ∧
        t.tier prio = [⟨cmd, p, prio, t.gen⟩] ∧ t.gen = nextGen s.cfg s.gen ∧
        t.resp = s.resp ++ [[0x00#8], [0x00#8]]

/-- CLR empties both tiers and counts one generation, modulo 2^GEN_W where GEN_W is finite, always
(41_scheduler.md R102); the command in flight and everything else is unchanged. -/
def Obligations.ClrEmptiesBothTiers : Prop :=
  ∀ s : State,
    decode .host [0x02#8, 0#8, 0#8, 0#8] = .ok .clr ∧
    (s.cfg.genW = none →
      exec .clr s = .next { s with qh := [], ql := [], gen := s.gen + 1,
                                   resp := s.resp ++ [[0x00#8]] }) ∧
    (∀ w, s.cfg.genW = some w →
      exec .clr s = .next { s with qh := [], ql := [], gen := (s.gen + 1) % 2 ^ w,
                                   resp := s.resp ++ [[0x00#8]] })

/-- STAT answers the twelve bytes of 41_scheduler.md R104 and changes nothing else. -/
def Obligations.StatAnswersTheStatus : Prop :=
  ∀ s : State,
    decode .host [0x03#8, 0#8, 0#8, 0#8] = .ok .stat ∧
    ∃ curv curcmd : Byte,
      (s.cur = none → curv = 0#8 ∧ curcmd = 0#8) ∧
      (∀ e, s.cur = some e → curv = 1#8 ∧ curcmd = e.cmd) ∧
      exec .stat s = .next { s with resp := s.resp ++
        [[0x00#8, stCode s.st, BitVec.ofNat 8 s.failCnt, errCode s.lastErr]
          ++ le16 (s.gen % 2 ^ 16) ++ le16 (min s.qh.length 65535) ++ le16 (min s.ql.length 65535)
          ++ [curv, curcmd]] }

/-- DEQ (41_scheduler.md R103): in IDLE it takes the head of HIGH, or of LOW when HIGH is empty, encodes
its frame and enters WRITING; with both tiers empty it is held, and in any other state it is not
enabled: the state stays (log 9). Its code is 0x80. -/
def Obligations.DeqTakesTheHighHeadFirst : Prop :=
  ∀ s : State,
    decode .engineStep [0x80#8, 0#8, 0#8, 0#8] = .ok .deq ∧
    (s.st = .idle → ∀ e qh, s.qh = e :: qh →
      exec .deq s = .next { s with qh := qh, cur := some e, frame := encodeFrame s.cfg e.cmd e.payload,
                                   lastErr := .none, st := .writing }) ∧
    (s.st = .idle → s.qh = [] → ∀ e ql, s.ql = e :: ql →
      exec .deq s = .next { s with ql := ql, cur := some e, frame := encodeFrame s.cfg e.cmd e.payload,
                                   lastErr := .none, st := .writing }) ∧
    (s.engineHeld → exec .deq s = .next s) ∧
    (s.st ≠ .idle → exec .deq s = .next s)

/-- 41_scheduler.md R105 and 20_memory.md R55: four requests LOW, HIGH, HIGH, LOW into empty, unbounded
tiers are dequeued in the order of the second, the third, the first and the fourth, each command being
released before the next DEQ. A LOW command dequeued before the ENQ of a HIGH one stays in flight. -/
def Obligations.HighDrainsFirst : Prop :=
  ∀ (s : State) (c1 c2 c3 c4 : Byte) (p1 p2 p3 p4 : List Byte) (more : List Turn),
    s.qh = [] → s.ql = [] → s.cfg.queueDepth = none → s.st = .idle →
    p1.length ≤ 255 → p2.length ≤ 255 → p3.length ≤ 255 → p4.length ≤ 255 →
    (s.turns = .request (encode (.enq .low c1 p1)) :: .request (encode (.enq .high c2 p2)) ::
      .request (encode (.enq .high c3 p3)) :: .request (encode (.enq .low c4 p4)) :: more →
    ∃ t t2 t3 t1 t4 : State, s.runs 4 = some t ∧
      exec .deq t = .next t2 ∧ t2.cur = some ⟨c2, p2, .high, s.gen⟩ ∧
      exec .deq t2.release = .next t3 ∧ t3.cur = some ⟨c3, p3, .high, s.gen⟩ ∧
      exec .deq t3.release = .next t1 ∧ t1.cur = some ⟨c1, p1, .low, s.gen⟩ ∧
      exec .deq t1.release = .next t4 ∧ t4.cur = some ⟨c4, p4, .low, s.gen⟩) ∧
    (s.turns = .request (encode (.enq .low c1 p1)) :: .engine ::
        .request (encode (.enq .high c2 p2)) :: more →
      ∃ t : State, s.runs 3 = some t ∧ t.st = .writing ∧ t.cur = some ⟨c1, p1, .low, s.gen⟩ ∧
        t.qh = [⟨c2, p2, .high, s.gen⟩])

/-- 10_state.md R26 and 20_memory.md R55: a step leaves a tier as it is, or pushes one entry of the
current stamp at its tail, or pops its head into flight, LOW only when HIGH is empty, or empties
both. -/
def Obligations.TiersChangeOnlyByTheirOperations : Prop :=
  ∀ s t : State, step s = .next t →
    (t.qh = s.qh ∧ t.ql = s.ql) ∨
    (∃ e : Entry, e.prio = .high ∧ e.gen = s.gen ∧ t.qh = s.qh ++ [e] ∧ t.ql = s.ql) ∨
    (∃ e : Entry, e.prio = .low ∧ e.gen = s.gen ∧ t.qh = s.qh ∧ t.ql = s.ql ++ [e]) ∨
    (∃ e, s.st = .idle ∧ s.qh = e :: t.qh ∧ t.ql = s.ql ∧ t.cur = some e) ∨
    (∃ e, s.st = .idle ∧ s.qh = [] ∧ t.qh = [] ∧ s.ql = e :: t.ql ∧ t.cur = some e) ∨
    (t.qh = [] ∧ t.ql = [])

/-- 41_scheduler.md R106, with GEN_W unbounded: a CLR leaves both tiers empty under a new generation
`g`; from then on, as long as no RST takes the generation back below `g`, every queued entry and every
entry a step puts in flight is stamped `g` or later. -/
def Obligations.ClearIsABarrier : Prop :=
  (∀ s t : State, exec .clr s = .next t → t.qh = [] ∧ t.ql = []) ∧
  ∀ (g : Nat) (s t : State), s.cfg.genW = none → g ≤ s.gen →
    (∀ e ∈ s.qh ++ s.ql, g ≤ e.gen) → step s = .next t → g ≤ t.gen →
    (∀ e ∈ t.qh ++ t.ql, g ≤ e.gen) ∧ (∀ e, t.cur = some e → t.cur ≠ s.cur → g ≤ e.gen)

/-- 10_state.md R28: a step changes S.GEN only as CLR, which adds 1 (modulo 2^GEN_W), or as RST, which
resets it to 0. -/
def Obligations.OnlyClrAndRstWriteGen : Prop :=
  ∀ s t : State, step s = .next t → t.gen ≠ s.gen →
    ∃ bytes, s.nextTurn = .request bytes ∧
      ((decode .host bytes = .ok .clr ∧
          (s.cfg.genW = none → t.gen = s.gen + 1) ∧
          (∀ w, s.cfg.genW = some w → t.gen = (s.gen + 1) % 2 ^ w)) ∨
       (decode .host bytes = .ok .rst ∧ t.gen = 0))

/-! ## The retry engine -/

/-- WRITE (42_retry_engine.md R112, R121): S.FRAME is written, the answer is used up, and on Ok the
engine awaits the response. Its code is 0x81. -/
def Obligations.WriteAwaitsTheResponse : Prop :=
  decode .engineStep [0x81#8, 0#8, 0#8, 0#8] = .ok .write ∧
  ∀ (s : State) (e : Entry), s.st = .writing → s.cur = some e → s.txAnswer = .ok →
    exec .write s = .next { s with st := .await, link := s.link ++ [.write s.frame],
                                   txIn := s.txIn.tail, draws := s.draws + 1 }

/-- A write exception is accounted as a failed attempt, code 8 (R112, R114): below the cap the same
frame is written again; at the cap PCF is emitted with the sample of DIAG_IN (R115) and the engine is
in FAILED. -/
def Obligations.WriteExceptionIsAccounted : Prop :=
  ∀ (s : State) (e : Entry), s.st = .writing → s.cur = some e → s.txAnswer = .exc →
    (s.failCnt + 1 < 10 →
      exec .write s = .next { s with failCnt := s.failCnt + 1, lastErr := .transportException,
                                     link := s.link ++ [.write s.frame], txIn := s.txIn.tail,
                                     draws := s.draws + 1 }) ∧
    (s.failCnt + 1 = 10 → ∀ d, (s.diagIn = [] → d = Config.freeDiag (s.draws + 1)) →
      (∀ x rest, s.diagIn = x :: rest → d = x) →
      exec .write s = .next { s with failCnt := 10, lastErr := .transportException, st := .failed,
                                     elog := s.elog ++
                                       [⟨e.gen, e.cmd, e.payload, .transportException, d⟩],
                                     link := s.link ++ [.write s.frame], txIn := s.txIn.tail,
                                     diagIn := s.diagIn.tail, draws := s.draws + 2 })

/-- RECV whose answer decodes for the command in flight (42_retry_engine.md R113, R118): the counter is
reset, one Dispatch is emitted with the command's stamp and the target of its id, the engine is in
SUCCESS, and S.LAST_ERR is kept (10_state.md R25). The code of RECV is 0x82. -/
def Obligations.RecvDispatchesADecodedResponse : Prop :=
  decode .engineStep [0x82#8, 0#8, 0#8, 0#8] = .ok .recv ∧
  ∀ (s : State) (e : Entry) (b : List Byte) (cmd : Byte) (p : List Byte),
    s.st = .await → s.cur = some e → s.rxAnswer = .bytes b → b ≠ [] →
    decodeFrame s.cfg b e.cmd = .ok cmd p →
    exec .recv s = .next { s with st := .success, failCnt := 0,
                                  dlog := s.dlog ++ [⟨e.gen, cmd, p, s.cfg.dispatch.get cmd.toFin⟩],
                                  link := s.link ++ [.read s.cfg.rxMax], rxIn := s.rxIn.tail,
                                  draws := s.draws + 1 }

/-- RECV that fails (R113, R114): no byte is code 7, a transport exception code 8, a decode error its
own code; below the cap the engine is back in WRITING; at the cap PCF is emitted (R115) and the engine
is in FAILED. -/
def Obligations.RecvFailureIsAccounted : Prop :=
  ∀ (s : State) (e : Entry) (err : ErrCode), s.st = .await → s.cur = some e →
    ((s.rxAnswer = .bytes [] ∧ err = .readTimeout) ∨
      (s.rxAnswer = .exc ∧ err = .transportException) ∨
      (∃ b fe, s.rxAnswer = .bytes b ∧ b ≠ [] ∧ decodeFrame s.cfg b e.cmd = .error fe ∧
        err = fe.toErr)) →
    (s.failCnt + 1 < 10 →
      exec .recv s = .next { s with st := .writing, failCnt := s.failCnt + 1, lastErr := err,
                                    link := s.link ++ [.read s.cfg.rxMax], rxIn := s.rxIn.tail,
                                    draws := s.draws + 1 }) ∧
    (s.failCnt + 1 = 10 → ∀ d, (s.diagIn = [] → d = Config.freeDiag (s.draws + 1)) →
      (∀ x rest, s.diagIn = x :: rest → d = x) →
      exec .recv s = .next { s with st := .failed, failCnt := 10, lastErr := err,
                                    elog := s.elog ++ [⟨e.gen, e.cmd, e.payload, err, d⟩],
                                    link := s.link ++ [.read s.cfg.rxMax], rxIn := s.rxIn.tail,
                                    diagIn := s.diagIn.tail, draws := s.draws + 2 })

/-- 42_retry_engine.md R120: a lost handle, in WRITE or RECV, halts the engine with S.CUR, S.FRAME,
S.FAIL_CNT and S.LAST_ERR kept, no PCF and no count; in HALTED the engine takes no step, and only RST
leaves it, those four being kept until then. -/
def Obligations.LostHandleHaltsUntilRst : Prop :=
  (∀ (s : State) (e : Entry), s.cur = some e →
    (s.st = .writing → s.txAnswer = .lost →
      exec .write s = .next { s with st := .halted, link := s.link ++ [.write s.frame],
                                     txIn := s.txIn.tail, draws := s.draws + 1 }) ∧
    (s.st = .await → s.rxAnswer = .lost →
      exec .recv s = .next { s with st := .halted, link := s.link ++ [.read s.cfg.rxMax],
                                    rxIn := s.rxIn.tail, draws := s.draws + 1 })) ∧
  (∀ s t : State, s.st = .halted → step s = .next t →
    (s.nextTurn = .engine → t = s.didTurn) ∧
    ((t.st = .halted ∧ t.cur = s.cur ∧ t.frame = s.frame ∧ t.failCnt = s.failCnt ∧
        t.lastErr = s.lastErr) ∨
      (t.st = .idle ∧ ∃ bytes, s.nextTurn = .request bytes ∧ decode .host bytes = .ok .rst)))

/-- A read never gives more than RX_MAX bytes (R121): the listed answer is cut to RX_MAX (log 2), and
where none is listed the answer is free, within the same bound. -/
def Obligations.ReadsAreBoundedByRxMax : Prop :=
  ∀ (s : State) (b : List Byte), s.rxAnswer = .bytes b → b.length ≤ s.cfg.rxMax

/-- 42_retry_engine.md R127: whatever the kind of a failure, it is counted, and the engine retries below
the cap and is in FAILED at it; the kind changes S.LAST_ERR and the code in the PCF, and nothing else. -/
def Obligations.FailureKindsCountAlike : Prop :=
  ∀ (s : State) (e : Entry) (err err' : ErrCode),
    (s.failAttempt e err).failCnt = s.failCnt + 1 ∧
    (s.failCnt + 1 < 10 → (s.failAttempt e err).st = .writing) ∧
    (10 ≤ s.failCnt + 1 → (s.failAttempt e err).st = .failed) ∧
    ∃ pcfs : ErrCode → List Pcf,
      (s.failAttempt e err).elog = s.elog ++ pcfs err ∧
      (pcfs err).map (fun p => { p with lastErr := err' }) = pcfs err' ∧
      s.failAttempt e err' =
        { s.failAttempt e err with lastErr := err', elog := s.elog ++ pcfs err' }

/-- COMPLETE in SUCCESS releases the command (42_retry_engine.md R116); the counter, S.LAST_ERR and the
streams stay. Its code is 0x83. -/
def Obligations.CompleteReleasesTheCommand : Prop :=
  decode .engineStep [0x83#8, 0#8, 0#8, 0#8] = .ok .complete ∧
  ∀ s : State, s.st = .success →
    exec .complete s = .next { s with cur := none, frame := [], st := .idle }

/-- RESUME in FAILED discards the command and resets the counter (42_retry_engine.md R117). Its code
is 0x84. -/
def Obligations.ResumeDiscardsTheCommand : Prop :=
  decode .engineStep [0x84#8, 0#8, 0#8, 0#8] = .ok .resume ∧
  ∀ s : State, s.st = .failed →
    exec .resume s = .next { s with cur := none, frame := [], failCnt := 0, st := .idle }

/-- RST, in every engine state, gives every element of S.* its reset value and keeps the configuration
and the streams (42_retry_engine.md R119, 10_state.md R36); the values are those of the reset state. -/
def Obligations.RstResetsTheBlock : Prop :=
  ∀ s : State,
    decode .host [0x04#8, 0#8, 0#8, 0#8] = .ok .rst ∧
    exec .rst s = .next { s with st := .idle, cur := none, frame := [], failCnt := 0,
                                 lastErr := .none, qh := [], ql := [], gen := 0,
                                 resp := s.resp ++ [[0x00#8]] } ∧
    State.reset = { State.reset with st := .idle, cur := none, frame := [], failCnt := 0,
                                     lastErr := .none, qh := [], ql := [], gen := 0 }

/-- A step that is not enabled leaves the state as it is (42_retry_engine.md R110; how the model answers
a step that no agent takes is its choice, log 9). -/
def Obligations.StepsNotEnabledChangeNothing : Prop :=
  ∀ s : State,
    (s.st ≠ .writing → exec .write s = .next s) ∧ (s.st ≠ .await → exec .recv s = .next s) ∧
    (s.st ≠ .success → exec .complete s = .next s) ∧ (s.st ≠ .failed → exec .resume s = .next s)

/-- 42_retry_engine.md R122: ten failed attempts of one command, of any mix of kinds, interleaved with
any moves of the other agents but RST, emit exactly one PCF, at the last step; before it no event is
emitted; every attempt writes the same frame. The moves and answers are listed (logs 1 and 2). -/
def Obligations.RetryCap : Prop :=
  ∀ (s : State) (e : Entry) (as : List Attempt) (tx : List TxAnswer) (rx : List RxAnswer)
    (ts more : List Turn) (err : ErrCode),
    Attempting s e as tx rx ts more → s.failCnt = 0 → as.length = 10 →
    (∀ a ∈ as, (Attempt.error s.cfg e.cmd a).isSome = true) →
    as.getLast?.bind (Attempt.error s.cfg e.cmd) = some err →
    (∃ t d, s.runs ts.length = some t ∧ t.st = .failed ∧ t.failCnt = 10 ∧
      t.lastErr = err ∧ t.dlog = s.dlog ∧
      t.elog = s.elog ++ [⟨e.gen, e.cmd, e.payload, err, d⟩] ∧
      writes t.link = writes s.link ++ List.replicate 10 (.write s.frame)) ∧
    (∀ k u, (ts.take k).count .engine < (as.map Attempt.steps).sum → s.runs k = some u →
      u.elog = s.elog ∧ u.dlog = s.dlog)

/-- 42_retry_engine.md R123: fewer than ten failed attempts and then one that decodes, interleaved with
any moves of the other agents but RST, emit exactly one Dispatch, at the last step, and no PCF; the
counter is 0 and S.LAST_ERR is the error of the last failed attempt, or NONE. The moves and answers are
listed (logs 1 and 2). -/
def Obligations.SuccessAfterRetries : Prop :=
  ∀ (s : State) (e : Entry) (as : List Attempt) (b : List Byte) (cmd : Byte) (p : List Byte)
    (tx : List TxAnswer) (rx : List RxAnswer) (ts more : List Turn),
    Attempting s e (as ++ [some (.bytes b)]) tx rx ts more → s.failCnt = 0 → s.lastErr = .none →
    as.length < 10 → (∀ a ∈ as, (Attempt.error s.cfg e.cmd a).isSome = true) →
    b.take s.cfg.rxMax ≠ [] → decodeFrame s.cfg (b.take s.cfg.rxMax) e.cmd = .ok cmd p →
    (∃ t, s.runs ts.length = some t ∧ t.st = .success ∧ t.failCnt = 0 ∧
      t.elog = s.elog ∧ t.dlog = s.dlog ++ [⟨e.gen, cmd, p, s.cfg.dispatch.get cmd.toFin⟩] ∧
      t.lastErr = (as.getLast?.bind (Attempt.error s.cfg e.cmd)).getD .none) ∧
    (∀ k u, (ts.take k).count .engine < (as.map Attempt.steps).sum + 2 → s.runs k = some u →
      u.elog = s.elog ∧ u.dlog = s.dlog)

/-- 70_reset_and_hazards.md R158: whatever the transport answers and whatever the other agents do but
RST, a command in flight reaches SUCCESS, FAILED or HALTED within 2·MAX_RETRY of the engine's moves,
each of which is one transport call. That the engine gets these moves is the fairness R158 assumes. -/
def Obligations.EveryCommandEnds : Prop :=
  ∀ (s : State) (ts more : List Turn), s.Inv → s.st = .writing →
    s.turns = ts ++ more → Interleaved 20 ts →
    ∃ k t, k ≤ ts.length ∧ s.runs k = some t ∧ (t.st = .success ∨ t.st = .failed ∨ t.st = .halted) ∧
      t.link.length = s.link.length + (ts.take k).count .engine

/-! ## The whole machine -/

/-- The invariants of 10_state.md R33 hold after reset. -/
def Obligations.ResetMeetsTheInvariants : Prop := State.reset.Inv

/-- Every step keeps the invariants of 10_state.md R33, and RST, from any state, establishes them. -/
def Obligations.StepKeepsTheInvariants : Prop :=
  (∀ s t : State, s.Inv → step s = .next t → t.Inv) ∧
  (∀ s : State, ∃ t, exec .rst s = .next t ∧ t.Inv)

/-- A state that meets the invariants always has a next state: no protocol error, no request and no
answer of the transport stops the block (60_exceptions.md R137). 00_scope.md R12 gives held and halted
as outcomes of their own; that an engine's move is then a next state which only uses it up is the
model's choice (log 9). Only the answer Lost halts the engine. -/
def Obligations.StepNeverStops : Prop :=
  (∀ s : State, s.Inv → ∃ t, step s = .next t) ∧
  (∀ s t : State, step s = .next t → s.st ≠ .halted → t.st = .halted →
    s.nextTurn = .engine ∧
    ((s.st = .writing ∧ s.didTurn.txAnswer = .lost) ∨
      (s.st = .await ∧ s.didTurn.rxAnswer = .lost)))

/-- 42_retry_engine.md R110: the step each state of the engine enables, and the transitions of S.ST,
`retry` being where rule R114 sends a failed attempt. The engine's move makes those of the table; no
other move changes S.ST, but a request for RST, which leads to IDLE from every state. -/
def Obligations.TransitionsOfTheEngineState : Prop :=
  ∀ s t : State, step s = .next t →
    ∀ retry, retry = (if s.failCnt + 1 < 10 then EngineState.writing else EngineState.failed) →
    (s.nextTurn = .engine →
      (step s = match s.st with
        | .idle => exec .deq s.didTurn
        | .writing => exec .write s.didTurn
        | .await => exec .recv s.didTurn
        | .success => exec .complete s.didTurn
        | .failed => exec .resume s.didTurn
        | .halted => .next s.didTurn) ∧
      (s.st = .idle → t.st = if s.qh ++ s.ql = [] then .idle else .writing) ∧
      (s.st = .writing →
        (s.didTurn.txAnswer = .ok → t.st = .await) ∧
        (s.didTurn.txAnswer = .exc → t.st = retry) ∧
        (s.didTurn.txAnswer = .lost → t.st = .halted)) ∧
      (s.st = .await → ∀ e, s.cur = some e →
        (s.didTurn.rxAnswer = .exc ∨ s.didTurn.rxAnswer = .bytes [] → t.st = retry) ∧
        (∀ b err, s.didTurn.rxAnswer = .bytes b → b ≠ [] →
          decodeFrame s.cfg b e.cmd = .error err → t.st = retry) ∧
        (∀ b cmd p, s.didTurn.rxAnswer = .bytes b → b ≠ [] →
          decodeFrame s.cfg b e.cmd = .ok cmd p → t.st = .success) ∧
        (s.didTurn.rxAnswer = .lost → t.st = .halted)) ∧
      (s.st = .success → t.st = .idle) ∧ (s.st = .failed → t.st = .idle) ∧
      (s.st = .halted → t.st = .halted)) ∧
    (∀ bytes, s.nextTurn = .request bytes → decode .host bytes = .ok .rst → t.st = .idle) ∧
    (s.nextTurn ≠ .engine → t.st = s.st ∨
      ∃ bytes, s.nextTurn = .request bytes ∧ decode .host bytes = .ok .rst)

/-- 10_state.md R29: no step changes the configuration. -/
def Obligations.ConfigurationNeverChanges : Prop :=
  ∀ s t : State, step s = .next t → t.cfg = s.cfg

/-- 10_state.md R30, 42_retry_engine.md R124 and R129: the streams only grow, by at most one event a
step: a Dispatch by a step from AWAIT into SUCCESS, or a PCF by a step from WRITING or AWAIT into
FAILED, carrying the stamp of the command in flight. -/
def Obligations.EventsCarryTheStampOfTheirCommand : Prop :=
  ∀ s t : State, step s = .next t →
    (t.dlog = s.dlog ∧ t.elog = s.elog) ∨
    (s.st = .await ∧ t.st = .success ∧ t.elog = s.elog ∧
      ∃ e d, s.cur = some e ∧ t.dlog = s.dlog ++ [d] ∧ d.gen = e.gen ∧
        d.target = s.cfg.dispatch.get d.cmd.toFin) ∨
    ((s.st = .writing ∨ s.st = .await) ∧ t.st = .failed ∧ t.dlog = s.dlog ∧
      ∃ e p, s.cur = some e ∧ t.elog = s.elog ++ [p] ∧ p.gen = e.gen ∧ p.cmd = e.cmd ∧
        p.payload = e.payload ∧ p.lastErr = t.lastErr)

/-- 20_memory.md R61 and 42_retry_engine.md R125: between the DEQ of a command and its release no step
changes S.CUR or S.FRAME; a step that puts a command in flight starts in IDLE and ends in WRITING with
that command's frame. -/
def Obligations.FrameIsASnapshot : Prop :=
  ∀ s t : State, step s = .next t →
    (t.cur = s.cur ∧ t.frame = s.frame) ∨
    (t.st = .idle ∧ t.cur = none ∧ t.frame = []) ∨
    (s.st = .idle ∧ t.st = .writing ∧
      ∃ e, t.cur = some e ∧ t.frame = encodeFrame s.cfg e.cmd e.payload)

/-- 20_memory.md R59: only the engine's move calls the transport, one call a step: a write of S.FRAME
from WRITING, or a read of RX_MAX from AWAIT; a write answered Ok is followed by AWAIT. -/
def Obligations.OnlyTheEngineCallsTheTransport : Prop :=
  ∀ s t : State, step s = .next t →
    t.link = s.link ∨
    (s.nextTurn = .engine ∧ s.st = .writing ∧ t.link = s.link ++ [.write s.frame] ∧
      (s.didTurn.txAnswer = .ok → t.st = .await)) ∨
    (s.nextTurn = .engine ∧ s.st = .await ∧ t.link = s.link ++ [.read s.cfg.rxMax] ∧
      t.st ≠ .await)

/-- 10_state.md R31: DIAG_IN is opaque to the block. Two states that differ only in what DIAG_IN will
carry step to states that differ only in that and in the `diag` of PCF events. -/
def Obligations.DiagInIsOpaque : Prop :=
  ∀ (s : State) (ds : List Diag),
    let hide : State → State := fun t =>
      { t with diagIn := [], elog := t.elog.map fun p => { p with diag := [] } }
    (∀ t, step s = .next t →
      ∃ t', step { s with diagIn := ds } = .next t' ∧ hide t' = hide t)

/-! ## The wire -/

/-- The decoder's rows of 30_encoding.md R68: what each token emits and consumes. The reader they act on
is the model's own (log 6); nothing else is changed. -/
def Obligations.TokensEmitAndConsume : Prop :=
  ∀ (s : State) (b : Byte),
    exec .escStart s = .next { s with wire := { s.wire with raw := s.wire.raw.drop 2,
                                                            out := s.wire.out ++ [0x7E#8] } } ∧
    exec .escEsc s = .next { s with wire := { s.wire with raw := s.wire.raw.drop 2,
                                                          out := s.wire.out ++ [0x10#8] } } ∧
    exec (.escOther b) s = .next { s with wire := { s.wire with raw := s.wire.raw.drop 1,
                                                                out := s.wire.out ++ [0x10#8] } } ∧
    (s.cfg.loneEsc = .malformed →
      exec .escLone s = .next { s with wire := { s.wire with raw := s.wire.raw.drop 1,
                                                             result := some (.error .malformedFrame) } }) ∧
    (s.cfg.loneEsc = .literal →
      exec .escLone s = .next { s with wire := { s.wire with raw := s.wire.raw.drop 1,
                                                             out := s.wire.out ++ [0x10#8] } }) ∧
    exec (.byte b) s = .next { s with wire := { s.wire with raw := s.wire.raw.drop 1,
                                                            out := s.wire.out ++ [b] } }

/-- FRAME: the frame with the layout of 30_encoding.md R63 is checked in the order of 60_exceptions.md
R133, and the answer is kept by the reader (log 6); nothing else is changed. -/
def Obligations.FrameIsChecked : Prop :=
  ∀ (s : State) (rtu : Byte) (len : U16) (cmd : Byte) (p : List Byte) (ck : U16),
    ∃ r, exec (.frame rtu len cmd p ck) s = .next { s with wire := { s.wire with result := some r } } ∧
      (rtu ≠ s.cfg.rtuId → r = .error .rtuMismatch) ∧
      (rtu = s.cfg.rtuId → cmd ≠ s.wire.exp → r = .error .commandMismatch) ∧
      (rtu = s.cfg.rtuId → cmd = s.wire.exp → len.toNat ≠ p.length + 1 →
        r = .error .lengthMismatch) ∧
      (rtu = s.cfg.rtuId → cmd = s.wire.exp → len.toNat = p.length + 1 →
        ((ck ≠ checksumLoop s.cfg.cksumTable 0#16
            ([0x7E#8, rtu, len.extractLsb' 0 8, len.extractLsb' 8 8, cmd] ++ p) →
          r = .error .checksumMismatch) ∧
        (ck = checksumLoop s.cfg.cksumTable 0#16
            ([0x7E#8, rtu, len.extractLsb' 0 8, len.extractLsb' 8 8, cmd] ++ p) →
          r = .ok cmd p)))

/-- The token reader refines Decode (40_codec.md R87, R89): a raw buffer read token by token, and the
frame then checked, gives the answer of the atomic Decode, and changes nothing else. -/
def Obligations.TokenReaderIsDecode : Prop :=
  ∀ (s : State) (exp : Byte) (raw : List Byte) (more : List Turn),
    s.turns = .load exp raw :: (List.replicate (raw.length + 1) .wire ++ more) →
    ∃ t, s.runs (raw.length + 2) = some t ∧
      t.wire.result = some (decodeFrame s.cfg raw exp) ∧
      t = { s with turns := more, wire := t.wire }

/-! ## Short requests, and the end of a run -/

/-- A request that ends inside its word is answered REQ_ILLEGAL like one that ends inside its data part
(30_encoding.md R80); that is the model's reading (log 12). -/
def Obligations.ShortRequestsAreIllegal : Prop :=
  ∀ (s : State) (more : List Turn) (bytes : List Byte),
    s.turns = .request bytes :: more → bytes.length < 4 →
    step s = .next { s with turns := more, resp := s.resp ++ [[0xF0#8]] }

/-- 42_retry_engine.md R126. (a) Held in DEQ with no request in progress, a run changes nothing but the
schedule and the model's token reader. (b) Halted with no RST issued, the engine stays halted: S.CUR,
S.FRAME, S.FAIL_CNT, S.LAST_ERR, the events and the calls on the transport stay as they are, whatever
the producers do. And the engine's move changes nothing exactly where the engine is held or halted, a
move that only uses itself up being the model's choice (log 9). The end of a run is read over the moves
to come (log 21). -/
def Obligations.QuiescentRunsStandStill : Prop :=
  (∀ (s : State) (k : Nat), s.quiescentIdle k →
    ∃ t, s.runs k = some t ∧ t = { s with turns := t.turns, draws := t.draws, wire := t.wire }) ∧
  (∀ (s : State) (k : Nat), s.quiescentHalted k →
    ∃ t, s.runs k = some t ∧ t.engineHalted ∧
      t = { s with turns := t.turns, draws := t.draws, wire := t.wire, qh := t.qh, ql := t.ql,
                   gen := t.gen, resp := t.resp, waiting := t.waiting }) ∧
  (∀ (s : State) (more : List Turn), s.turns = .engine :: more →
    (step s = .next { s with turns := more } ↔ s.engineHeld ∨ s.engineHalted))
end

