-- ==== Sys2Proof/Laws/State.lean ====
section
/-! SUPPORT. What each named operation over the state does to each field: one lemma per field per
operation, so that no later proof unfolds a record update. -/

namespace Sys2Proof.Machine

/-! ### respond -/

@[simp] theorem State.respond_cfg (s : State) (r : List Byte) : (s.respond r).cfg = s.cfg := rfl
@[simp] theorem State.respond_st (s : State) (r : List Byte) : (s.respond r).st = s.st := rfl
@[simp] theorem State.respond_cur (s : State) (r : List Byte) : (s.respond r).cur = s.cur := rfl
@[simp] theorem State.respond_frame (s : State) (r : List Byte) :
    (s.respond r).frame = s.frame := rfl
@[simp] theorem State.respond_failCnt (s : State) (r : List Byte) :
    (s.respond r).failCnt = s.failCnt := rfl
@[simp] theorem State.respond_lastErr (s : State) (r : List Byte) :
    (s.respond r).lastErr = s.lastErr := rfl
@[simp] theorem State.respond_qh (s : State) (r : List Byte) : (s.respond r).qh = s.qh := rfl
@[simp] theorem State.respond_ql (s : State) (r : List Byte) : (s.respond r).ql = s.ql := rfl
@[simp] theorem State.respond_gen (s : State) (r : List Byte) : (s.respond r).gen = s.gen := rfl
@[simp] theorem State.respond_dlog (s : State) (r : List Byte) : (s.respond r).dlog = s.dlog := rfl
@[simp] theorem State.respond_elog (s : State) (r : List Byte) : (s.respond r).elog = s.elog := rfl
@[simp] theorem State.respond_resp (s : State) (r : List Byte) :
    (s.respond r).resp = s.resp ++ [r] := rfl
@[simp] theorem State.respond_link (s : State) (r : List Byte) : (s.respond r).link = s.link := rfl
@[simp] theorem State.respond_waiting (s : State) (r : List Byte) :
    (s.respond r).waiting = s.waiting := rfl
@[simp] theorem State.respond_wire (s : State) (r : List Byte) : (s.respond r).wire = s.wire := rfl
@[simp] theorem State.respond_turns (s : State) (r : List Byte) :
    (s.respond r).turns = s.turns := rfl
@[simp] theorem State.respond_txIn (s : State) (r : List Byte) : (s.respond r).txIn = s.txIn := rfl
@[simp] theorem State.respond_rxIn (s : State) (r : List Byte) : (s.respond r).rxIn = s.rxIn := rfl
@[simp] theorem State.respond_diagIn (s : State) (r : List Byte) :
    (s.respond r).diagIn = s.diagIn := rfl
@[simp] theorem State.respond_draws (s : State) (r : List Byte) :
    (s.respond r).draws = s.draws := rfl

/-! ### park -/

@[simp] theorem State.park_cfg (s : State) (h : HeldEnq) : (s.park h).cfg = s.cfg := rfl
@[simp] theorem State.park_st (s : State) (h : HeldEnq) : (s.park h).st = s.st := rfl
@[simp] theorem State.park_cur (s : State) (h : HeldEnq) : (s.park h).cur = s.cur := rfl
@[simp] theorem State.park_frame (s : State) (h : HeldEnq) : (s.park h).frame = s.frame := rfl
@[simp] theorem State.park_failCnt (s : State) (h : HeldEnq) : (s.park h).failCnt = s.failCnt := rfl
@[simp] theorem State.park_lastErr (s : State) (h : HeldEnq) : (s.park h).lastErr = s.lastErr := rfl
@[simp] theorem State.park_qh (s : State) (h : HeldEnq) : (s.park h).qh = s.qh := rfl
@[simp] theorem State.park_ql (s : State) (h : HeldEnq) : (s.park h).ql = s.ql := rfl
@[simp] theorem State.park_gen (s : State) (h : HeldEnq) : (s.park h).gen = s.gen := rfl
@[simp] theorem State.park_dlog (s : State) (h : HeldEnq) : (s.park h).dlog = s.dlog := rfl
@[simp] theorem State.park_elog (s : State) (h : HeldEnq) : (s.park h).elog = s.elog := rfl
@[simp] theorem State.park_resp (s : State) (h : HeldEnq) : (s.park h).resp = s.resp := rfl
@[simp] theorem State.park_link (s : State) (h : HeldEnq) : (s.park h).link = s.link := rfl
@[simp] theorem State.park_waiting (s : State) (h : HeldEnq) :
    (s.park h).waiting = s.waiting ++ [h] := rfl
@[simp] theorem State.park_wire (s : State) (h : HeldEnq) : (s.park h).wire = s.wire := rfl
@[simp] theorem State.park_turns (s : State) (h : HeldEnq) : (s.park h).turns = s.turns := rfl
@[simp] theorem State.park_txIn (s : State) (h : HeldEnq) : (s.park h).txIn = s.txIn := rfl
@[simp] theorem State.park_rxIn (s : State) (h : HeldEnq) : (s.park h).rxIn = s.rxIn := rfl
@[simp] theorem State.park_diagIn (s : State) (h : HeldEnq) : (s.park h).diagIn = s.diagIn := rfl
@[simp] theorem State.park_draws (s : State) (h : HeldEnq) : (s.park h).draws = s.draws := rfl

/-! ### unpark -/

@[simp] theorem State.unpark_cfg (s : State) (k : Nat) : (s.unpark k).cfg = s.cfg := rfl
@[simp] theorem State.unpark_st (s : State) (k : Nat) : (s.unpark k).st = s.st := rfl
@[simp] theorem State.unpark_cur (s : State) (k : Nat) : (s.unpark k).cur = s.cur := rfl
@[simp] theorem State.unpark_frame (s : State) (k : Nat) : (s.unpark k).frame = s.frame := rfl
@[simp] theorem State.unpark_failCnt (s : State) (k : Nat) : (s.unpark k).failCnt = s.failCnt := rfl
@[simp] theorem State.unpark_lastErr (s : State) (k : Nat) : (s.unpark k).lastErr = s.lastErr := rfl
@[simp] theorem State.unpark_qh (s : State) (k : Nat) : (s.unpark k).qh = s.qh := rfl
@[simp] theorem State.unpark_ql (s : State) (k : Nat) : (s.unpark k).ql = s.ql := rfl
@[simp] theorem State.unpark_gen (s : State) (k : Nat) : (s.unpark k).gen = s.gen := rfl
@[simp] theorem State.unpark_dlog (s : State) (k : Nat) : (s.unpark k).dlog = s.dlog := rfl
@[simp] theorem State.unpark_elog (s : State) (k : Nat) : (s.unpark k).elog = s.elog := rfl
@[simp] theorem State.unpark_resp (s : State) (k : Nat) : (s.unpark k).resp = s.resp := rfl
@[simp] theorem State.unpark_link (s : State) (k : Nat) : (s.unpark k).link = s.link := rfl
@[simp] theorem State.unpark_waiting (s : State) (k : Nat) :
    (s.unpark k).waiting = s.waiting.eraseIdx k := rfl
@[simp] theorem State.unpark_wire (s : State) (k : Nat) : (s.unpark k).wire = s.wire := rfl
@[simp] theorem State.unpark_turns (s : State) (k : Nat) : (s.unpark k).turns = s.turns := rfl
@[simp] theorem State.unpark_txIn (s : State) (k : Nat) : (s.unpark k).txIn = s.txIn := rfl
@[simp] theorem State.unpark_rxIn (s : State) (k : Nat) : (s.unpark k).rxIn = s.rxIn := rfl
@[simp] theorem State.unpark_diagIn (s : State) (k : Nat) : (s.unpark k).diagIn = s.diagIn := rfl
@[simp] theorem State.unpark_draws (s : State) (k : Nat) : (s.unpark k).draws = s.draws := rfl

/-! ### clearQueues -/

@[simp] theorem State.clearQueues_cfg (s : State) : s.clearQueues.cfg = s.cfg := rfl
@[simp] theorem State.clearQueues_st (s : State) : s.clearQueues.st = s.st := rfl
@[simp] theorem State.clearQueues_cur (s : State) : s.clearQueues.cur = s.cur := rfl
@[simp] theorem State.clearQueues_frame (s : State) : s.clearQueues.frame = s.frame := rfl
@[simp] theorem State.clearQueues_failCnt (s : State) : s.clearQueues.failCnt = s.failCnt := rfl
@[simp] theorem State.clearQueues_lastErr (s : State) : s.clearQueues.lastErr = s.lastErr := rfl
@[simp] theorem State.clearQueues_qh (s : State) : s.clearQueues.qh = [] := rfl
@[simp] theorem State.clearQueues_ql (s : State) : s.clearQueues.ql = [] := rfl
@[simp] theorem State.clearQueues_gen (s : State) : s.clearQueues.gen = nextGen s.cfg s.gen := rfl
@[simp] theorem State.clearQueues_dlog (s : State) : s.clearQueues.dlog = s.dlog := rfl
@[simp] theorem State.clearQueues_elog (s : State) : s.clearQueues.elog = s.elog := rfl
@[simp] theorem State.clearQueues_resp (s : State) : s.clearQueues.resp = s.resp := rfl
@[simp] theorem State.clearQueues_link (s : State) : s.clearQueues.link = s.link := rfl
@[simp] theorem State.clearQueues_waiting (s : State) : s.clearQueues.waiting = s.waiting := rfl
@[simp] theorem State.clearQueues_wire (s : State) : s.clearQueues.wire = s.wire := rfl
@[simp] theorem State.clearQueues_turns (s : State) : s.clearQueues.turns = s.turns := rfl
@[simp] theorem State.clearQueues_txIn (s : State) : s.clearQueues.txIn = s.txIn := rfl
@[simp] theorem State.clearQueues_rxIn (s : State) : s.clearQueues.rxIn = s.rxIn := rfl
@[simp] theorem State.clearQueues_diagIn (s : State) : s.clearQueues.diagIn = s.diagIn := rfl
@[simp] theorem State.clearQueues_draws (s : State) : s.clearQueues.draws = s.draws := rfl

/-! ### launch -/

@[simp] theorem State.launch_cfg (s : State) (e : Entry) (qh ql : List Entry) :
    (s.launch e qh ql).cfg = s.cfg := rfl
@[simp] theorem State.launch_st (s : State) (e : Entry) (qh ql : List Entry) :
    (s.launch e qh ql).st = .writing := rfl
@[simp] theorem State.launch_cur (s : State) (e : Entry) (qh ql : List Entry) :
    (s.launch e qh ql).cur = some e := rfl
@[simp] theorem State.launch_frame (s : State) (e : Entry) (qh ql : List Entry) :
    (s.launch e qh ql).frame = encodeFrame s.cfg e.cmd e.payload := rfl
@[simp] theorem State.launch_failCnt (s : State) (e : Entry) (qh ql : List Entry) :
    (s.launch e qh ql).failCnt = s.failCnt := rfl
@[simp] theorem State.launch_lastErr (s : State) (e : Entry) (qh ql : List Entry) :
    (s.launch e qh ql).lastErr = .none := rfl
@[simp] theorem State.launch_qh (s : State) (e : Entry) (qh ql : List Entry) :
    (s.launch e qh ql).qh = qh := rfl
@[simp] theorem State.launch_ql (s : State) (e : Entry) (qh ql : List Entry) :
    (s.launch e qh ql).ql = ql := rfl
@[simp] theorem State.launch_gen (s : State) (e : Entry) (qh ql : List Entry) :
    (s.launch e qh ql).gen = s.gen := rfl
@[simp] theorem State.launch_dlog (s : State) (e : Entry) (qh ql : List Entry) :
    (s.launch e qh ql).dlog = s.dlog := rfl
@[simp] theorem State.launch_elog (s : State) (e : Entry) (qh ql : List Entry) :
    (s.launch e qh ql).elog = s.elog := rfl
@[simp] theorem State.launch_resp (s : State) (e : Entry) (qh ql : List Entry) :
    (s.launch e qh ql).resp = s.resp := rfl
@[simp] theorem State.launch_link (s : State) (e : Entry) (qh ql : List Entry) :
    (s.launch e qh ql).link = s.link := rfl
@[simp] theorem State.launch_waiting (s : State) (e : Entry) (qh ql : List Entry) :
    (s.launch e qh ql).waiting = s.waiting := rfl
@[simp] theorem State.launch_wire (s : State) (e : Entry) (qh ql : List Entry) :
    (s.launch e qh ql).wire = s.wire := rfl
@[simp] theorem State.launch_turns (s : State) (e : Entry) (qh ql : List Entry) :
    (s.launch e qh ql).turns = s.turns := rfl
@[simp] theorem State.launch_txIn (s : State) (e : Entry) (qh ql : List Entry) :
    (s.launch e qh ql).txIn = s.txIn := rfl
@[simp] theorem State.launch_rxIn (s : State) (e : Entry) (qh ql : List Entry) :
    (s.launch e qh ql).rxIn = s.rxIn := rfl
@[simp] theorem State.launch_diagIn (s : State) (e : Entry) (qh ql : List Entry) :
    (s.launch e qh ql).diagIn = s.diagIn := rfl
@[simp] theorem State.launch_draws (s : State) (e : Entry) (qh ql : List Entry) :
    (s.launch e qh ql).draws = s.draws := rfl

/-! ### didWrite -/

@[simp] theorem State.didWrite_cfg (s : State) : s.didWrite.cfg = s.cfg := rfl
@[simp] theorem State.didWrite_st (s : State) : s.didWrite.st = s.st := rfl
@[simp] theorem State.didWrite_cur (s : State) : s.didWrite.cur = s.cur := rfl
@[simp] theorem State.didWrite_frame (s : State) : s.didWrite.frame = s.frame := rfl
@[simp] theorem State.didWrite_failCnt (s : State) : s.didWrite.failCnt = s.failCnt := rfl
@[simp] theorem State.didWrite_lastErr (s : State) : s.didWrite.lastErr = s.lastErr := rfl
@[simp] theorem State.didWrite_qh (s : State) : s.didWrite.qh = s.qh := rfl
@[simp] theorem State.didWrite_ql (s : State) : s.didWrite.ql = s.ql := rfl
@[simp] theorem State.didWrite_gen (s : State) : s.didWrite.gen = s.gen := rfl
@[simp] theorem State.didWrite_dlog (s : State) : s.didWrite.dlog = s.dlog := rfl
@[simp] theorem State.didWrite_elog (s : State) : s.didWrite.elog = s.elog := rfl
@[simp] theorem State.didWrite_resp (s : State) : s.didWrite.resp = s.resp := rfl
@[simp] theorem State.didWrite_link (s : State) :
    s.didWrite.link = s.link ++ [.write s.frame] := rfl
@[simp] theorem State.didWrite_waiting (s : State) : s.didWrite.waiting = s.waiting := rfl
@[simp] theorem State.didWrite_wire (s : State) : s.didWrite.wire = s.wire := rfl
@[simp] theorem State.didWrite_turns (s : State) : s.didWrite.turns = s.turns := rfl
@[simp] theorem State.didWrite_txIn (s : State) : s.didWrite.txIn = s.txIn.tail := rfl
@[simp] theorem State.didWrite_rxIn (s : State) : s.didWrite.rxIn = s.rxIn := rfl
@[simp] theorem State.didWrite_diagIn (s : State) : s.didWrite.diagIn = s.diagIn := rfl
@[simp] theorem State.didWrite_draws (s : State) : s.didWrite.draws = s.draws + 1 := rfl

/-! ### didRead -/

@[simp] theorem State.didRead_cfg (s : State) : s.didRead.cfg = s.cfg := rfl
@[simp] theorem State.didRead_st (s : State) : s.didRead.st = s.st := rfl
@[simp] theorem State.didRead_cur (s : State) : s.didRead.cur = s.cur := rfl
@[simp] theorem State.didRead_frame (s : State) : s.didRead.frame = s.frame := rfl
@[simp] theorem State.didRead_failCnt (s : State) : s.didRead.failCnt = s.failCnt := rfl
@[simp] theorem State.didRead_lastErr (s : State) : s.didRead.lastErr = s.lastErr := rfl
@[simp] theorem State.didRead_qh (s : State) : s.didRead.qh = s.qh := rfl
@[simp] theorem State.didRead_ql (s : State) : s.didRead.ql = s.ql := rfl
@[simp] theorem State.didRead_gen (s : State) : s.didRead.gen = s.gen := rfl
@[simp] theorem State.didRead_dlog (s : State) : s.didRead.dlog = s.dlog := rfl
@[simp] theorem State.didRead_elog (s : State) : s.didRead.elog = s.elog := rfl
@[simp] theorem State.didRead_resp (s : State) : s.didRead.resp = s.resp := rfl
@[simp] theorem State.didRead_link (s : State) :
    s.didRead.link = s.link ++ [.read s.cfg.rxMax] := rfl
@[simp] theorem State.didRead_waiting (s : State) : s.didRead.waiting = s.waiting := rfl
@[simp] theorem State.didRead_wire (s : State) : s.didRead.wire = s.wire := rfl
@[simp] theorem State.didRead_turns (s : State) : s.didRead.turns = s.turns := rfl
@[simp] theorem State.didRead_txIn (s : State) : s.didRead.txIn = s.txIn := rfl
@[simp] theorem State.didRead_rxIn (s : State) : s.didRead.rxIn = s.rxIn.tail := rfl
@[simp] theorem State.didRead_diagIn (s : State) : s.didRead.diagIn = s.diagIn := rfl
@[simp] theorem State.didRead_draws (s : State) : s.didRead.draws = s.draws + 1 := rfl

/-! ### didSample -/

@[simp] theorem State.didSample_cfg (s : State) : s.didSample.cfg = s.cfg := rfl
@[simp] theorem State.didSample_st (s : State) : s.didSample.st = s.st := rfl
@[simp] theorem State.didSample_cur (s : State) : s.didSample.cur = s.cur := rfl
@[simp] theorem State.didSample_frame (s : State) : s.didSample.frame = s.frame := rfl
@[simp] theorem State.didSample_failCnt (s : State) : s.didSample.failCnt = s.failCnt := rfl
@[simp] theorem State.didSample_lastErr (s : State) : s.didSample.lastErr = s.lastErr := rfl
@[simp] theorem State.didSample_qh (s : State) : s.didSample.qh = s.qh := rfl
@[simp] theorem State.didSample_ql (s : State) : s.didSample.ql = s.ql := rfl
@[simp] theorem State.didSample_gen (s : State) : s.didSample.gen = s.gen := rfl
@[simp] theorem State.didSample_dlog (s : State) : s.didSample.dlog = s.dlog := rfl
@[simp] theorem State.didSample_elog (s : State) : s.didSample.elog = s.elog := rfl
@[simp] theorem State.didSample_resp (s : State) : s.didSample.resp = s.resp := rfl
@[simp] theorem State.didSample_link (s : State) : s.didSample.link = s.link := rfl
@[simp] theorem State.didSample_waiting (s : State) : s.didSample.waiting = s.waiting := rfl
@[simp] theorem State.didSample_wire (s : State) : s.didSample.wire = s.wire := rfl
@[simp] theorem State.didSample_turns (s : State) : s.didSample.turns = s.turns := rfl
@[simp] theorem State.didSample_txIn (s : State) : s.didSample.txIn = s.txIn := rfl
@[simp] theorem State.didSample_rxIn (s : State) : s.didSample.rxIn = s.rxIn := rfl
@[simp] theorem State.didSample_diagIn (s : State) : s.didSample.diagIn = s.diagIn.tail := rfl
@[simp] theorem State.didSample_draws (s : State) : s.didSample.draws = s.draws + 1 := rfl

/-! ### countFailure -/

@[simp] theorem State.countFailure_cfg (s : State) (err : ErrCode) :
    (s.countFailure err).cfg = s.cfg := rfl
@[simp] theorem State.countFailure_st (s : State) (err : ErrCode) :
    (s.countFailure err).st = s.st := rfl
@[simp] theorem State.countFailure_cur (s : State) (err : ErrCode) :
    (s.countFailure err).cur = s.cur := rfl
@[simp] theorem State.countFailure_frame (s : State) (err : ErrCode) :
    (s.countFailure err).frame = s.frame := rfl
@[simp] theorem State.countFailure_failCnt (s : State) (err : ErrCode) :
    (s.countFailure err).failCnt = s.failCnt + 1 := rfl
@[simp] theorem State.countFailure_lastErr (s : State) (err : ErrCode) :
    (s.countFailure err).lastErr = err := rfl
@[simp] theorem State.countFailure_qh (s : State) (err : ErrCode) :
    (s.countFailure err).qh = s.qh := rfl
@[simp] theorem State.countFailure_ql (s : State) (err : ErrCode) :
    (s.countFailure err).ql = s.ql := rfl
@[simp] theorem State.countFailure_gen (s : State) (err : ErrCode) :
    (s.countFailure err).gen = s.gen := rfl
@[simp] theorem State.countFailure_dlog (s : State) (err : ErrCode) :
    (s.countFailure err).dlog = s.dlog := rfl
@[simp] theorem State.countFailure_elog (s : State) (err : ErrCode) :
    (s.countFailure err).elog = s.elog := rfl
@[simp] theorem State.countFailure_resp (s : State) (err : ErrCode) :
    (s.countFailure err).resp = s.resp := rfl
@[simp] theorem State.countFailure_link (s : State) (err : ErrCode) :
    (s.countFailure err).link = s.link := rfl
@[simp] theorem State.countFailure_waiting (s : State) (err : ErrCode) :
    (s.countFailure err).waiting = s.waiting := rfl
@[simp] theorem State.countFailure_wire (s : State) (err : ErrCode) :
    (s.countFailure err).wire = s.wire := rfl
@[simp] theorem State.countFailure_turns (s : State) (err : ErrCode) :
    (s.countFailure err).turns = s.turns := rfl
@[simp] theorem State.countFailure_txIn (s : State) (err : ErrCode) :
    (s.countFailure err).txIn = s.txIn := rfl
@[simp] theorem State.countFailure_rxIn (s : State) (err : ErrCode) :
    (s.countFailure err).rxIn = s.rxIn := rfl
@[simp] theorem State.countFailure_diagIn (s : State) (err : ErrCode) :
    (s.countFailure err).diagIn = s.diagIn := rfl
@[simp] theorem State.countFailure_draws (s : State) (err : ErrCode) :
    (s.countFailure err).draws = s.draws := rfl

/-! ### exhaust -/

@[simp] theorem State.exhaust_cfg (s : State) (e : Entry) (err : ErrCode) :
    (s.exhaust e err).cfg = s.cfg := rfl
@[simp] theorem State.exhaust_st (s : State) (e : Entry) (err : ErrCode) :
    (s.exhaust e err).st = .failed := rfl
@[simp] theorem State.exhaust_cur (s : State) (e : Entry) (err : ErrCode) :
    (s.exhaust e err).cur = s.cur := rfl
@[simp] theorem State.exhaust_frame (s : State) (e : Entry) (err : ErrCode) :
    (s.exhaust e err).frame = s.frame := rfl
@[simp] theorem State.exhaust_failCnt (s : State) (e : Entry) (err : ErrCode) :
    (s.exhaust e err).failCnt = s.failCnt := rfl
@[simp] theorem State.exhaust_lastErr (s : State) (e : Entry) (err : ErrCode) :
    (s.exhaust e err).lastErr = s.lastErr := rfl
@[simp] theorem State.exhaust_qh (s : State) (e : Entry) (err : ErrCode) :
    (s.exhaust e err).qh = s.qh := rfl
@[simp] theorem State.exhaust_ql (s : State) (e : Entry) (err : ErrCode) :
    (s.exhaust e err).ql = s.ql := rfl
@[simp] theorem State.exhaust_gen (s : State) (e : Entry) (err : ErrCode) :
    (s.exhaust e err).gen = s.gen := rfl
@[simp] theorem State.exhaust_dlog (s : State) (e : Entry) (err : ErrCode) :
    (s.exhaust e err).dlog = s.dlog := rfl
@[simp] theorem State.exhaust_elog (s : State) (e : Entry) (err : ErrCode) :
    (s.exhaust e err).elog = s.elog ++ [⟨e.gen, e.cmd, e.payload, err, s.diagSample⟩] := rfl
@[simp] theorem State.exhaust_resp (s : State) (e : Entry) (err : ErrCode) :
    (s.exhaust e err).resp = s.resp := rfl
@[simp] theorem State.exhaust_link (s : State) (e : Entry) (err : ErrCode) :
    (s.exhaust e err).link = s.link := rfl
@[simp] theorem State.exhaust_waiting (s : State) (e : Entry) (err : ErrCode) :
    (s.exhaust e err).waiting = s.waiting := rfl
@[simp] theorem State.exhaust_wire (s : State) (e : Entry) (err : ErrCode) :
    (s.exhaust e err).wire = s.wire := rfl
@[simp] theorem State.exhaust_turns (s : State) (e : Entry) (err : ErrCode) :
    (s.exhaust e err).turns = s.turns := rfl
@[simp] theorem State.exhaust_txIn (s : State) (e : Entry) (err : ErrCode) :
    (s.exhaust e err).txIn = s.txIn := rfl
@[simp] theorem State.exhaust_rxIn (s : State) (e : Entry) (err : ErrCode) :
    (s.exhaust e err).rxIn = s.rxIn := rfl
@[simp] theorem State.exhaust_diagIn (s : State) (e : Entry) (err : ErrCode) :
    (s.exhaust e err).diagIn = s.diagIn.tail := rfl
@[simp] theorem State.exhaust_draws (s : State) (e : Entry) (err : ErrCode) :
    (s.exhaust e err).draws = s.draws + 1 := rfl

/-! ### retryWrite -/

@[simp] theorem State.retryWrite_cfg (s : State) : s.retryWrite.cfg = s.cfg := rfl
@[simp] theorem State.retryWrite_st (s : State) : s.retryWrite.st = .writing := rfl
@[simp] theorem State.retryWrite_cur (s : State) : s.retryWrite.cur = s.cur := rfl
@[simp] theorem State.retryWrite_frame (s : State) : s.retryWrite.frame = s.frame := rfl
@[simp] theorem State.retryWrite_failCnt (s : State) : s.retryWrite.failCnt = s.failCnt := rfl
@[simp] theorem State.retryWrite_lastErr (s : State) : s.retryWrite.lastErr = s.lastErr := rfl
@[simp] theorem State.retryWrite_qh (s : State) : s.retryWrite.qh = s.qh := rfl
@[simp] theorem State.retryWrite_ql (s : State) : s.retryWrite.ql = s.ql := rfl
@[simp] theorem State.retryWrite_gen (s : State) : s.retryWrite.gen = s.gen := rfl
@[simp] theorem State.retryWrite_dlog (s : State) : s.retryWrite.dlog = s.dlog := rfl
@[simp] theorem State.retryWrite_elog (s : State) : s.retryWrite.elog = s.elog := rfl
@[simp] theorem State.retryWrite_resp (s : State) : s.retryWrite.resp = s.resp := rfl
@[simp] theorem State.retryWrite_link (s : State) : s.retryWrite.link = s.link := rfl
@[simp] theorem State.retryWrite_waiting (s : State) : s.retryWrite.waiting = s.waiting := rfl
@[simp] theorem State.retryWrite_wire (s : State) : s.retryWrite.wire = s.wire := rfl
@[simp] theorem State.retryWrite_turns (s : State) : s.retryWrite.turns = s.turns := rfl
@[simp] theorem State.retryWrite_txIn (s : State) : s.retryWrite.txIn = s.txIn := rfl
@[simp] theorem State.retryWrite_rxIn (s : State) : s.retryWrite.rxIn = s.rxIn := rfl
@[simp] theorem State.retryWrite_diagIn (s : State) : s.retryWrite.diagIn = s.diagIn := rfl
@[simp] theorem State.retryWrite_draws (s : State) : s.retryWrite.draws = s.draws := rfl

/-! ### awaitResponse -/

@[simp] theorem State.awaitResponse_cfg (s : State) : s.awaitResponse.cfg = s.cfg := rfl
@[simp] theorem State.awaitResponse_st (s : State) : s.awaitResponse.st = .await := rfl
@[simp] theorem State.awaitResponse_cur (s : State) : s.awaitResponse.cur = s.cur := rfl
@[simp] theorem State.awaitResponse_frame (s : State) : s.awaitResponse.frame = s.frame := rfl
@[simp] theorem State.awaitResponse_failCnt (s : State) : s.awaitResponse.failCnt = s.failCnt := rfl
@[simp] theorem State.awaitResponse_lastErr (s : State) : s.awaitResponse.lastErr = s.lastErr := rfl
@[simp] theorem State.awaitResponse_qh (s : State) : s.awaitResponse.qh = s.qh := rfl
@[simp] theorem State.awaitResponse_ql (s : State) : s.awaitResponse.ql = s.ql := rfl
@[simp] theorem State.awaitResponse_gen (s : State) : s.awaitResponse.gen = s.gen := rfl
@[simp] theorem State.awaitResponse_dlog (s : State) : s.awaitResponse.dlog = s.dlog := rfl
@[simp] theorem State.awaitResponse_elog (s : State) : s.awaitResponse.elog = s.elog := rfl
@[simp] theorem State.awaitResponse_resp (s : State) : s.awaitResponse.resp = s.resp := rfl
@[simp] theorem State.awaitResponse_link (s : State) : s.awaitResponse.link = s.link := rfl
@[simp] theorem State.awaitResponse_waiting (s : State) : s.awaitResponse.waiting = s.waiting := rfl
@[simp] theorem State.awaitResponse_wire (s : State) : s.awaitResponse.wire = s.wire := rfl
@[simp] theorem State.awaitResponse_turns (s : State) : s.awaitResponse.turns = s.turns := rfl
@[simp] theorem State.awaitResponse_txIn (s : State) : s.awaitResponse.txIn = s.txIn := rfl
@[simp] theorem State.awaitResponse_rxIn (s : State) : s.awaitResponse.rxIn = s.rxIn := rfl
@[simp] theorem State.awaitResponse_diagIn (s : State) : s.awaitResponse.diagIn = s.diagIn := rfl
@[simp] theorem State.awaitResponse_draws (s : State) : s.awaitResponse.draws = s.draws := rfl

/-! ### succeed -/

@[simp] theorem State.succeed_cfg (s : State) (e : Entry) (cmd : Byte) (payload : List Byte) :
    (s.succeed e cmd payload).cfg = s.cfg := rfl
@[simp] theorem State.succeed_st (s : State) (e : Entry) (cmd : Byte) (payload : List Byte) :
    (s.succeed e cmd payload).st = .success := rfl
@[simp] theorem State.succeed_cur (s : State) (e : Entry) (cmd : Byte) (payload : List Byte) :
    (s.succeed e cmd payload).cur = s.cur := rfl
@[simp] theorem State.succeed_frame (s : State) (e : Entry) (cmd : Byte) (payload : List Byte) :
    (s.succeed e cmd payload).frame = s.frame := rfl
@[simp] theorem State.succeed_failCnt (s : State) (e : Entry) (cmd : Byte) (payload : List Byte) :
    (s.succeed e cmd payload).failCnt = 0 := rfl
@[simp] theorem State.succeed_lastErr (s : State) (e : Entry) (cmd : Byte) (payload : List Byte) :
    (s.succeed e cmd payload).lastErr = s.lastErr := rfl
@[simp] theorem State.succeed_qh (s : State) (e : Entry) (cmd : Byte) (payload : List Byte) :
    (s.succeed e cmd payload).qh = s.qh := rfl
@[simp] theorem State.succeed_ql (s : State) (e : Entry) (cmd : Byte) (payload : List Byte) :
    (s.succeed e cmd payload).ql = s.ql := rfl
@[simp] theorem State.succeed_gen (s : State) (e : Entry) (cmd : Byte) (payload : List Byte) :
    (s.succeed e cmd payload).gen = s.gen := rfl
@[simp] theorem State.succeed_dlog (s : State) (e : Entry) (cmd : Byte) (payload : List Byte) :
    (s.succeed e cmd payload).dlog = s.dlog ++ [⟨e.gen, cmd, payload, s.cfg.dispatch.get cmd.toFin⟩] := rfl
@[simp] theorem State.succeed_elog (s : State) (e : Entry) (cmd : Byte) (payload : List Byte) :
    (s.succeed e cmd payload).elog = s.elog := rfl
@[simp] theorem State.succeed_resp (s : State) (e : Entry) (cmd : Byte) (payload : List Byte) :
    (s.succeed e cmd payload).resp = s.resp := rfl
@[simp] theorem State.succeed_link (s : State) (e : Entry) (cmd : Byte) (payload : List Byte) :
    (s.succeed e cmd payload).link = s.link := rfl
@[simp] theorem State.succeed_waiting (s : State) (e : Entry) (cmd : Byte) (payload : List Byte) :
    (s.succeed e cmd payload).waiting = s.waiting := rfl
@[simp] theorem State.succeed_wire (s : State) (e : Entry) (cmd : Byte) (payload : List Byte) :
    (s.succeed e cmd payload).wire = s.wire := rfl
@[simp] theorem State.succeed_turns (s : State) (e : Entry) (cmd : Byte) (payload : List Byte) :
    (s.succeed e cmd payload).turns = s.turns := rfl
@[simp] theorem State.succeed_txIn (s : State) (e : Entry) (cmd : Byte) (payload : List Byte) :
    (s.succeed e cmd payload).txIn = s.txIn := rfl
@[simp] theorem State.succeed_rxIn (s : State) (e : Entry) (cmd : Byte) (payload : List Byte) :
    (s.succeed e cmd payload).rxIn = s.rxIn := rfl
@[simp] theorem State.succeed_diagIn (s : State) (e : Entry) (cmd : Byte) (payload : List Byte) :
    (s.succeed e cmd payload).diagIn = s.diagIn := rfl
@[simp] theorem State.succeed_draws (s : State) (e : Entry) (cmd : Byte) (payload : List Byte) :
    (s.succeed e cmd payload).draws = s.draws := rfl

/-! ### halt -/

@[simp] theorem State.halt_cfg (s : State) : s.halt.cfg = s.cfg := rfl
@[simp] theorem State.halt_st (s : State) : s.halt.st = .halted := rfl
@[simp] theorem State.halt_cur (s : State) : s.halt.cur = s.cur := rfl
@[simp] theorem State.halt_frame (s : State) : s.halt.frame = s.frame := rfl
@[simp] theorem State.halt_failCnt (s : State) : s.halt.failCnt = s.failCnt := rfl
@[simp] theorem State.halt_lastErr (s : State) : s.halt.lastErr = s.lastErr := rfl
@[simp] theorem State.halt_qh (s : State) : s.halt.qh = s.qh := rfl
@[simp] theorem State.halt_ql (s : State) : s.halt.ql = s.ql := rfl
@[simp] theorem State.halt_gen (s : State) : s.halt.gen = s.gen := rfl
@[simp] theorem State.halt_dlog (s : State) : s.halt.dlog = s.dlog := rfl
@[simp] theorem State.halt_elog (s : State) : s.halt.elog = s.elog := rfl
@[simp] theorem State.halt_resp (s : State) : s.halt.resp = s.resp := rfl
@[simp] theorem State.halt_link (s : State) : s.halt.link = s.link := rfl
@[simp] theorem State.halt_waiting (s : State) : s.halt.waiting = s.waiting := rfl
@[simp] theorem State.halt_wire (s : State) : s.halt.wire = s.wire := rfl
@[simp] theorem State.halt_turns (s : State) : s.halt.turns = s.turns := rfl
@[simp] theorem State.halt_txIn (s : State) : s.halt.txIn = s.txIn := rfl
@[simp] theorem State.halt_rxIn (s : State) : s.halt.rxIn = s.rxIn := rfl
@[simp] theorem State.halt_diagIn (s : State) : s.halt.diagIn = s.diagIn := rfl
@[simp] theorem State.halt_draws (s : State) : s.halt.draws = s.draws := rfl

/-! ### release -/

@[simp] theorem State.release_cfg (s : State) : s.release.cfg = s.cfg := rfl
@[simp] theorem State.release_st (s : State) : s.release.st = .idle := rfl
@[simp] theorem State.release_cur (s : State) : s.release.cur = none := rfl
@[simp] theorem State.release_frame (s : State) : s.release.frame = [] := rfl
@[simp] theorem State.release_failCnt (s : State) : s.release.failCnt = s.failCnt := rfl
@[simp] theorem State.release_lastErr (s : State) : s.release.lastErr = s.lastErr := rfl
@[simp] theorem State.release_qh (s : State) : s.release.qh = s.qh := rfl
@[simp] theorem State.release_ql (s : State) : s.release.ql = s.ql := rfl
@[simp] theorem State.release_gen (s : State) : s.release.gen = s.gen := rfl
@[simp] theorem State.release_dlog (s : State) : s.release.dlog = s.dlog := rfl
@[simp] theorem State.release_elog (s : State) : s.release.elog = s.elog := rfl
@[simp] theorem State.release_resp (s : State) : s.release.resp = s.resp := rfl
@[simp] theorem State.release_link (s : State) : s.release.link = s.link := rfl
@[simp] theorem State.release_waiting (s : State) : s.release.waiting = s.waiting := rfl
@[simp] theorem State.release_wire (s : State) : s.release.wire = s.wire := rfl
@[simp] theorem State.release_turns (s : State) : s.release.turns = s.turns := rfl
@[simp] theorem State.release_txIn (s : State) : s.release.txIn = s.txIn := rfl
@[simp] theorem State.release_rxIn (s : State) : s.release.rxIn = s.rxIn := rfl
@[simp] theorem State.release_diagIn (s : State) : s.release.diagIn = s.diagIn := rfl
@[simp] theorem State.release_draws (s : State) : s.release.draws = s.draws := rfl

/-! ### resumeDrain -/

@[simp] theorem State.resumeDrain_cfg (s : State) : s.resumeDrain.cfg = s.cfg := rfl
@[simp] theorem State.resumeDrain_st (s : State) : s.resumeDrain.st = .idle := rfl
@[simp] theorem State.resumeDrain_cur (s : State) : s.resumeDrain.cur = none := rfl
@[simp] theorem State.resumeDrain_frame (s : State) : s.resumeDrain.frame = [] := rfl
@[simp] theorem State.resumeDrain_failCnt (s : State) : s.resumeDrain.failCnt = 0 := rfl
@[simp] theorem State.resumeDrain_lastErr (s : State) : s.resumeDrain.lastErr = s.lastErr := rfl
@[simp] theorem State.resumeDrain_qh (s : State) : s.resumeDrain.qh = s.qh := rfl
@[simp] theorem State.resumeDrain_ql (s : State) : s.resumeDrain.ql = s.ql := rfl
@[simp] theorem State.resumeDrain_gen (s : State) : s.resumeDrain.gen = s.gen := rfl
@[simp] theorem State.resumeDrain_dlog (s : State) : s.resumeDrain.dlog = s.dlog := rfl
@[simp] theorem State.resumeDrain_elog (s : State) : s.resumeDrain.elog = s.elog := rfl
@[simp] theorem State.resumeDrain_resp (s : State) : s.resumeDrain.resp = s.resp := rfl
@[simp] theorem State.resumeDrain_link (s : State) : s.resumeDrain.link = s.link := rfl
@[simp] theorem State.resumeDrain_waiting (s : State) : s.resumeDrain.waiting = s.waiting := rfl
@[simp] theorem State.resumeDrain_wire (s : State) : s.resumeDrain.wire = s.wire := rfl
@[simp] theorem State.resumeDrain_turns (s : State) : s.resumeDrain.turns = s.turns := rfl
@[simp] theorem State.resumeDrain_txIn (s : State) : s.resumeDrain.txIn = s.txIn := rfl
@[simp] theorem State.resumeDrain_rxIn (s : State) : s.resumeDrain.rxIn = s.rxIn := rfl
@[simp] theorem State.resumeDrain_diagIn (s : State) : s.resumeDrain.diagIn = s.diagIn := rfl
@[simp] theorem State.resumeDrain_draws (s : State) : s.resumeDrain.draws = s.draws := rfl

/-! ### resetBlock -/

@[simp] theorem State.resetBlock_cfg (s : State) : s.resetBlock.cfg = s.cfg := rfl
@[simp] theorem State.resetBlock_st (s : State) : s.resetBlock.st = .idle := rfl
@[simp] theorem State.resetBlock_cur (s : State) : s.resetBlock.cur = none := rfl
@[simp] theorem State.resetBlock_frame (s : State) : s.resetBlock.frame = [] := rfl
@[simp] theorem State.resetBlock_failCnt (s : State) : s.resetBlock.failCnt = 0 := rfl
@[simp] theorem State.resetBlock_lastErr (s : State) : s.resetBlock.lastErr = .none := rfl
@[simp] theorem State.resetBlock_qh (s : State) : s.resetBlock.qh = [] := rfl
@[simp] theorem State.resetBlock_ql (s : State) : s.resetBlock.ql = [] := rfl
@[simp] theorem State.resetBlock_gen (s : State) : s.resetBlock.gen = 0 := rfl
@[simp] theorem State.resetBlock_dlog (s : State) : s.resetBlock.dlog = s.dlog := rfl
@[simp] theorem State.resetBlock_elog (s : State) : s.resetBlock.elog = s.elog := rfl
@[simp] theorem State.resetBlock_resp (s : State) : s.resetBlock.resp = s.resp := rfl
@[simp] theorem State.resetBlock_link (s : State) : s.resetBlock.link = s.link := rfl
@[simp] theorem State.resetBlock_waiting (s : State) : s.resetBlock.waiting = s.waiting := rfl
@[simp] theorem State.resetBlock_wire (s : State) : s.resetBlock.wire = s.wire := rfl
@[simp] theorem State.resetBlock_turns (s : State) : s.resetBlock.turns = s.turns := rfl
@[simp] theorem State.resetBlock_txIn (s : State) : s.resetBlock.txIn = s.txIn := rfl
@[simp] theorem State.resetBlock_rxIn (s : State) : s.resetBlock.rxIn = s.rxIn := rfl
@[simp] theorem State.resetBlock_diagIn (s : State) : s.resetBlock.diagIn = s.diagIn := rfl
@[simp] theorem State.resetBlock_draws (s : State) : s.resetBlock.draws = s.draws := rfl

/-! ### loadWire -/

@[simp] theorem State.loadWire_cfg (s : State) (exp : Byte) (raw : List Byte) :
    (s.loadWire exp raw).cfg = s.cfg := rfl
@[simp] theorem State.loadWire_st (s : State) (exp : Byte) (raw : List Byte) :
    (s.loadWire exp raw).st = s.st := rfl
@[simp] theorem State.loadWire_cur (s : State) (exp : Byte) (raw : List Byte) :
    (s.loadWire exp raw).cur = s.cur := rfl
@[simp] theorem State.loadWire_frame (s : State) (exp : Byte) (raw : List Byte) :
    (s.loadWire exp raw).frame = s.frame := rfl
@[simp] theorem State.loadWire_failCnt (s : State) (exp : Byte) (raw : List Byte) :
    (s.loadWire exp raw).failCnt = s.failCnt := rfl
@[simp] theorem State.loadWire_lastErr (s : State) (exp : Byte) (raw : List Byte) :
    (s.loadWire exp raw).lastErr = s.lastErr := rfl
@[simp] theorem State.loadWire_qh (s : State) (exp : Byte) (raw : List Byte) :
    (s.loadWire exp raw).qh = s.qh := rfl
@[simp] theorem State.loadWire_ql (s : State) (exp : Byte) (raw : List Byte) :
    (s.loadWire exp raw).ql = s.ql := rfl
@[simp] theorem State.loadWire_gen (s : State) (exp : Byte) (raw : List Byte) :
    (s.loadWire exp raw).gen = s.gen := rfl
@[simp] theorem State.loadWire_dlog (s : State) (exp : Byte) (raw : List Byte) :
    (s.loadWire exp raw).dlog = s.dlog := rfl
@[simp] theorem State.loadWire_elog (s : State) (exp : Byte) (raw : List Byte) :
    (s.loadWire exp raw).elog = s.elog := rfl
@[simp] theorem State.loadWire_resp (s : State) (exp : Byte) (raw : List Byte) :
    (s.loadWire exp raw).resp = s.resp := rfl
@[simp] theorem State.loadWire_link (s : State) (exp : Byte) (raw : List Byte) :
    (s.loadWire exp raw).link = s.link := rfl
@[simp] theorem State.loadWire_waiting (s : State) (exp : Byte) (raw : List Byte) :
    (s.loadWire exp raw).waiting = s.waiting := rfl
@[simp] theorem State.loadWire_wire (s : State) (exp : Byte) (raw : List Byte) :
    (s.loadWire exp raw).wire = ⟨exp, raw, [], none⟩ := rfl
@[simp] theorem State.loadWire_turns (s : State) (exp : Byte) (raw : List Byte) :
    (s.loadWire exp raw).turns = s.turns := rfl
@[simp] theorem State.loadWire_txIn (s : State) (exp : Byte) (raw : List Byte) :
    (s.loadWire exp raw).txIn = s.txIn := rfl
@[simp] theorem State.loadWire_rxIn (s : State) (exp : Byte) (raw : List Byte) :
    (s.loadWire exp raw).rxIn = s.rxIn := rfl
@[simp] theorem State.loadWire_diagIn (s : State) (exp : Byte) (raw : List Byte) :
    (s.loadWire exp raw).diagIn = s.diagIn := rfl
@[simp] theorem State.loadWire_draws (s : State) (exp : Byte) (raw : List Byte) :
    (s.loadWire exp raw).draws = s.draws := rfl

/-! ### emitToken -/

@[simp] theorem State.emitToken_cfg (s : State) (b : Byte) (n : Nat) :
    (s.emitToken b n).cfg = s.cfg := rfl
@[simp] theorem State.emitToken_st (s : State) (b : Byte) (n : Nat) :
    (s.emitToken b n).st = s.st := rfl
@[simp] theorem State.emitToken_cur (s : State) (b : Byte) (n : Nat) :
    (s.emitToken b n).cur = s.cur := rfl
@[simp] theorem State.emitToken_frame (s : State) (b : Byte) (n : Nat) :
    (s.emitToken b n).frame = s.frame := rfl
@[simp] theorem State.emitToken_failCnt (s : State) (b : Byte) (n : Nat) :
    (s.emitToken b n).failCnt = s.failCnt := rfl
@[simp] theorem State.emitToken_lastErr (s : State) (b : Byte) (n : Nat) :
    (s.emitToken b n).lastErr = s.lastErr := rfl
@[simp] theorem State.emitToken_qh (s : State) (b : Byte) (n : Nat) :
    (s.emitToken b n).qh = s.qh := rfl
@[simp] theorem State.emitToken_ql (s : State) (b : Byte) (n : Nat) :
    (s.emitToken b n).ql = s.ql := rfl
@[simp] theorem State.emitToken_gen (s : State) (b : Byte) (n : Nat) :
    (s.emitToken b n).gen = s.gen := rfl
@[simp] theorem State.emitToken_dlog (s : State) (b : Byte) (n : Nat) :
    (s.emitToken b n).dlog = s.dlog := rfl
@[simp] theorem State.emitToken_elog (s : State) (b : Byte) (n : Nat) :
    (s.emitToken b n).elog = s.elog := rfl
@[simp] theorem State.emitToken_resp (s : State) (b : Byte) (n : Nat) :
    (s.emitToken b n).resp = s.resp := rfl
@[simp] theorem State.emitToken_link (s : State) (b : Byte) (n : Nat) :
    (s.emitToken b n).link = s.link := rfl
@[simp] theorem State.emitToken_waiting (s : State) (b : Byte) (n : Nat) :
    (s.emitToken b n).waiting = s.waiting := rfl
@[simp] theorem State.emitToken_wire (s : State) (b : Byte) (n : Nat) :
    (s.emitToken b n).wire = ⟨s.wire.exp, s.wire.raw.drop n, s.wire.out ++ [b], s.wire.result⟩ := rfl
@[simp] theorem State.emitToken_turns (s : State) (b : Byte) (n : Nat) :
    (s.emitToken b n).turns = s.turns := rfl
@[simp] theorem State.emitToken_txIn (s : State) (b : Byte) (n : Nat) :
    (s.emitToken b n).txIn = s.txIn := rfl
@[simp] theorem State.emitToken_rxIn (s : State) (b : Byte) (n : Nat) :
    (s.emitToken b n).rxIn = s.rxIn := rfl
@[simp] theorem State.emitToken_diagIn (s : State) (b : Byte) (n : Nat) :
    (s.emitToken b n).diagIn = s.diagIn := rfl
@[simp] theorem State.emitToken_draws (s : State) (b : Byte) (n : Nat) :
    (s.emitToken b n).draws = s.draws := rfl

/-! ### malformedToken -/

@[simp] theorem State.malformedToken_cfg (s : State) : s.malformedToken.cfg = s.cfg := rfl
@[simp] theorem State.malformedToken_st (s : State) : s.malformedToken.st = s.st := rfl
@[simp] theorem State.malformedToken_cur (s : State) : s.malformedToken.cur = s.cur := rfl
@[simp] theorem State.malformedToken_frame (s : State) : s.malformedToken.frame = s.frame := rfl
@[simp] theorem State.malformedToken_failCnt (s : State) :
    s.malformedToken.failCnt = s.failCnt := rfl
@[simp] theorem State.malformedToken_lastErr (s : State) :
    s.malformedToken.lastErr = s.lastErr := rfl
@[simp] theorem State.malformedToken_qh (s : State) : s.malformedToken.qh = s.qh := rfl
@[simp] theorem State.malformedToken_ql (s : State) : s.malformedToken.ql = s.ql := rfl
@[simp] theorem State.malformedToken_gen (s : State) : s.malformedToken.gen = s.gen := rfl
@[simp] theorem State.malformedToken_dlog (s : State) : s.malformedToken.dlog = s.dlog := rfl
@[simp] theorem State.malformedToken_elog (s : State) : s.malformedToken.elog = s.elog := rfl
@[simp] theorem State.malformedToken_resp (s : State) : s.malformedToken.resp = s.resp := rfl
@[simp] theorem State.malformedToken_link (s : State) : s.malformedToken.link = s.link := rfl
@[simp] theorem State.malformedToken_waiting (s : State) :
    s.malformedToken.waiting = s.waiting := rfl
@[simp] theorem State.malformedToken_wire (s : State) :
    s.malformedToken.wire = ⟨s.wire.exp, s.wire.raw.drop 1, s.wire.out, some (.error .malformedFrame)⟩ := rfl
@[simp] theorem State.malformedToken_turns (s : State) : s.malformedToken.turns = s.turns := rfl
@[simp] theorem State.malformedToken_txIn (s : State) : s.malformedToken.txIn = s.txIn := rfl
@[simp] theorem State.malformedToken_rxIn (s : State) : s.malformedToken.rxIn = s.rxIn := rfl
@[simp] theorem State.malformedToken_diagIn (s : State) : s.malformedToken.diagIn = s.diagIn := rfl
@[simp] theorem State.malformedToken_draws (s : State) : s.malformedToken.draws = s.draws := rfl

/-! ### checkWire -/

@[simp] theorem State.checkWire_cfg (s : State) (f : List Byte) : (s.checkWire f).cfg = s.cfg := rfl
@[simp] theorem State.checkWire_st (s : State) (f : List Byte) : (s.checkWire f).st = s.st := rfl
@[simp] theorem State.checkWire_cur (s : State) (f : List Byte) : (s.checkWire f).cur = s.cur := rfl
@[simp] theorem State.checkWire_frame (s : State) (f : List Byte) :
    (s.checkWire f).frame = s.frame := rfl
@[simp] theorem State.checkWire_failCnt (s : State) (f : List Byte) :
    (s.checkWire f).failCnt = s.failCnt := rfl
@[simp] theorem State.checkWire_lastErr (s : State) (f : List Byte) :
    (s.checkWire f).lastErr = s.lastErr := rfl
@[simp] theorem State.checkWire_qh (s : State) (f : List Byte) : (s.checkWire f).qh = s.qh := rfl
@[simp] theorem State.checkWire_ql (s : State) (f : List Byte) : (s.checkWire f).ql = s.ql := rfl
@[simp] theorem State.checkWire_gen (s : State) (f : List Byte) : (s.checkWire f).gen = s.gen := rfl
@[simp] theorem State.checkWire_dlog (s : State) (f : List Byte) :
    (s.checkWire f).dlog = s.dlog := rfl
@[simp] theorem State.checkWire_elog (s : State) (f : List Byte) :
    (s.checkWire f).elog = s.elog := rfl
@[simp] theorem State.checkWire_resp (s : State) (f : List Byte) :
    (s.checkWire f).resp = s.resp := rfl
@[simp] theorem State.checkWire_link (s : State) (f : List Byte) :
    (s.checkWire f).link = s.link := rfl
@[simp] theorem State.checkWire_waiting (s : State) (f : List Byte) :
    (s.checkWire f).waiting = s.waiting := rfl
@[simp] theorem State.checkWire_wire (s : State) (f : List Byte) :
    (s.checkWire f).wire = ⟨s.wire.exp, s.wire.raw, s.wire.out, some (checkFrame s.cfg s.wire.exp f)⟩ := rfl
@[simp] theorem State.checkWire_turns (s : State) (f : List Byte) :
    (s.checkWire f).turns = s.turns := rfl
@[simp] theorem State.checkWire_txIn (s : State) (f : List Byte) :
    (s.checkWire f).txIn = s.txIn := rfl
@[simp] theorem State.checkWire_rxIn (s : State) (f : List Byte) :
    (s.checkWire f).rxIn = s.rxIn := rfl
@[simp] theorem State.checkWire_diagIn (s : State) (f : List Byte) :
    (s.checkWire f).diagIn = s.diagIn := rfl
@[simp] theorem State.checkWire_draws (s : State) (f : List Byte) :
    (s.checkWire f).draws = s.draws := rfl

/-! ### firstTurn -/

@[simp] theorem State.firstTurn_cfg (s : State) (t : Turn) : (s.firstTurn t).cfg = s.cfg := rfl
@[simp] theorem State.firstTurn_st (s : State) (t : Turn) : (s.firstTurn t).st = s.st := rfl
@[simp] theorem State.firstTurn_cur (s : State) (t : Turn) : (s.firstTurn t).cur = s.cur := rfl
@[simp] theorem State.firstTurn_frame (s : State) (t : Turn) :
    (s.firstTurn t).frame = s.frame := rfl
@[simp] theorem State.firstTurn_failCnt (s : State) (t : Turn) :
    (s.firstTurn t).failCnt = s.failCnt := rfl
@[simp] theorem State.firstTurn_lastErr (s : State) (t : Turn) :
    (s.firstTurn t).lastErr = s.lastErr := rfl
@[simp] theorem State.firstTurn_qh (s : State) (t : Turn) : (s.firstTurn t).qh = s.qh := rfl
@[simp] theorem State.firstTurn_ql (s : State) (t : Turn) : (s.firstTurn t).ql = s.ql := rfl
@[simp] theorem State.firstTurn_gen (s : State) (t : Turn) : (s.firstTurn t).gen = s.gen := rfl
@[simp] theorem State.firstTurn_dlog (s : State) (t : Turn) : (s.firstTurn t).dlog = s.dlog := rfl
@[simp] theorem State.firstTurn_elog (s : State) (t : Turn) : (s.firstTurn t).elog = s.elog := rfl
@[simp] theorem State.firstTurn_resp (s : State) (t : Turn) : (s.firstTurn t).resp = s.resp := rfl
@[simp] theorem State.firstTurn_link (s : State) (t : Turn) : (s.firstTurn t).link = s.link := rfl
@[simp] theorem State.firstTurn_waiting (s : State) (t : Turn) :
    (s.firstTurn t).waiting = s.waiting := rfl
@[simp] theorem State.firstTurn_wire (s : State) (t : Turn) : (s.firstTurn t).wire = s.wire := rfl
@[simp] theorem State.firstTurn_turns (s : State) (t : Turn) :
    (s.firstTurn t).turns = t :: s.turns := rfl
@[simp] theorem State.firstTurn_txIn (s : State) (t : Turn) : (s.firstTurn t).txIn = s.txIn := rfl
@[simp] theorem State.firstTurn_rxIn (s : State) (t : Turn) : (s.firstTurn t).rxIn = s.rxIn := rfl
@[simp] theorem State.firstTurn_diagIn (s : State) (t : Turn) :
    (s.firstTurn t).diagIn = s.diagIn := rfl
@[simp] theorem State.firstTurn_draws (s : State) (t : Turn) :
    (s.firstTurn t).draws = s.draws := rfl

/-! ### push: the fields it never changes -/

@[simp] theorem State.push_cfg (s : State) (e : Entry) : (s.push e).cfg = s.cfg := by
  unfold State.push; split <;> rfl
@[simp] theorem State.push_st (s : State) (e : Entry) : (s.push e).st = s.st := by
  unfold State.push; split <;> rfl
@[simp] theorem State.push_cur (s : State) (e : Entry) : (s.push e).cur = s.cur := by
  unfold State.push; split <;> rfl
@[simp] theorem State.push_frame (s : State) (e : Entry) : (s.push e).frame = s.frame := by
  unfold State.push; split <;> rfl
@[simp] theorem State.push_failCnt (s : State) (e : Entry) : (s.push e).failCnt = s.failCnt := by
  unfold State.push; split <;> rfl
@[simp] theorem State.push_lastErr (s : State) (e : Entry) : (s.push e).lastErr = s.lastErr := by
  unfold State.push; split <;> rfl
@[simp] theorem State.push_gen (s : State) (e : Entry) : (s.push e).gen = s.gen := by
  unfold State.push; split <;> rfl
@[simp] theorem State.push_dlog (s : State) (e : Entry) : (s.push e).dlog = s.dlog := by
  unfold State.push; split <;> rfl
@[simp] theorem State.push_elog (s : State) (e : Entry) : (s.push e).elog = s.elog := by
  unfold State.push; split <;> rfl
@[simp] theorem State.push_resp (s : State) (e : Entry) : (s.push e).resp = s.resp := by
  unfold State.push; split <;> rfl
@[simp] theorem State.push_link (s : State) (e : Entry) : (s.push e).link = s.link := by
  unfold State.push; split <;> rfl
@[simp] theorem State.push_waiting (s : State) (e : Entry) : (s.push e).waiting = s.waiting := by
  unfold State.push; split <;> rfl
@[simp] theorem State.push_wire (s : State) (e : Entry) : (s.push e).wire = s.wire := by
  unfold State.push; split <;> rfl
@[simp] theorem State.push_turns (s : State) (e : Entry) : (s.push e).turns = s.turns := by
  unfold State.push; split <;> rfl
@[simp] theorem State.push_txIn (s : State) (e : Entry) : (s.push e).txIn = s.txIn := by
  unfold State.push; split <;> rfl
@[simp] theorem State.push_rxIn (s : State) (e : Entry) : (s.push e).rxIn = s.rxIn := by
  unfold State.push; split <;> rfl
@[simp] theorem State.push_diagIn (s : State) (e : Entry) : (s.push e).diagIn = s.diagIn := by
  unfold State.push; split <;> rfl
@[simp] theorem State.push_draws (s : State) (e : Entry) : (s.push e).draws = s.draws := by
  unfold State.push; split <;> rfl

/-! ### failAttempt: the fields it never changes -/

@[simp] theorem State.failAttempt_cfg (s : State) (e : Entry) (err : ErrCode) : (s.failAttempt e err).cfg = s.cfg := by
  unfold State.failAttempt; split <;> rfl
@[simp] theorem State.failAttempt_cur (s : State) (e : Entry) (err : ErrCode) : (s.failAttempt e err).cur = s.cur := by
  unfold State.failAttempt; split <;> rfl
@[simp] theorem State.failAttempt_frame (s : State) (e : Entry) (err : ErrCode) : (s.failAttempt e err).frame = s.frame := by
  unfold State.failAttempt; split <;> rfl
@[simp] theorem State.failAttempt_qh (s : State) (e : Entry) (err : ErrCode) : (s.failAttempt e err).qh = s.qh := by
  unfold State.failAttempt; split <;> rfl
@[simp] theorem State.failAttempt_ql (s : State) (e : Entry) (err : ErrCode) : (s.failAttempt e err).ql = s.ql := by
  unfold State.failAttempt; split <;> rfl
@[simp] theorem State.failAttempt_gen (s : State) (e : Entry) (err : ErrCode) : (s.failAttempt e err).gen = s.gen := by
  unfold State.failAttempt; split <;> rfl
@[simp] theorem State.failAttempt_dlog (s : State) (e : Entry) (err : ErrCode) : (s.failAttempt e err).dlog = s.dlog := by
  unfold State.failAttempt; split <;> rfl
@[simp] theorem State.failAttempt_resp (s : State) (e : Entry) (err : ErrCode) : (s.failAttempt e err).resp = s.resp := by
  unfold State.failAttempt; split <;> rfl
@[simp] theorem State.failAttempt_link (s : State) (e : Entry) (err : ErrCode) : (s.failAttempt e err).link = s.link := by
  unfold State.failAttempt; split <;> rfl
@[simp] theorem State.failAttempt_waiting (s : State) (e : Entry) (err : ErrCode) : (s.failAttempt e err).waiting = s.waiting := by
  unfold State.failAttempt; split <;> rfl
@[simp] theorem State.failAttempt_wire (s : State) (e : Entry) (err : ErrCode) : (s.failAttempt e err).wire = s.wire := by
  unfold State.failAttempt; split <;> rfl
@[simp] theorem State.failAttempt_turns (s : State) (e : Entry) (err : ErrCode) : (s.failAttempt e err).turns = s.turns := by
  unfold State.failAttempt; split <;> rfl
@[simp] theorem State.failAttempt_txIn (s : State) (e : Entry) (err : ErrCode) : (s.failAttempt e err).txIn = s.txIn := by
  unfold State.failAttempt; split <;> rfl
@[simp] theorem State.failAttempt_rxIn (s : State) (e : Entry) (err : ErrCode) : (s.failAttempt e err).rxIn = s.rxIn := by
  unfold State.failAttempt; split <;> rfl

/-! ### didTurn: the fields it never changes -/

@[simp] theorem State.didTurn_cfg (s : State) : s.didTurn.cfg = s.cfg := by
  unfold State.didTurn; split <;> rfl
@[simp] theorem State.didTurn_st (s : State) : s.didTurn.st = s.st := by
  unfold State.didTurn; split <;> rfl
@[simp] theorem State.didTurn_cur (s : State) : s.didTurn.cur = s.cur := by
  unfold State.didTurn; split <;> rfl
@[simp] theorem State.didTurn_frame (s : State) : s.didTurn.frame = s.frame := by
  unfold State.didTurn; split <;> rfl
@[simp] theorem State.didTurn_failCnt (s : State) : s.didTurn.failCnt = s.failCnt := by
  unfold State.didTurn; split <;> rfl
@[simp] theorem State.didTurn_lastErr (s : State) : s.didTurn.lastErr = s.lastErr := by
  unfold State.didTurn; split <;> rfl
@[simp] theorem State.didTurn_qh (s : State) : s.didTurn.qh = s.qh := by
  unfold State.didTurn; split <;> rfl
@[simp] theorem State.didTurn_ql (s : State) : s.didTurn.ql = s.ql := by
  unfold State.didTurn; split <;> rfl
@[simp] theorem State.didTurn_gen (s : State) : s.didTurn.gen = s.gen := by
  unfold State.didTurn; split <;> rfl
@[simp] theorem State.didTurn_dlog (s : State) : s.didTurn.dlog = s.dlog := by
  unfold State.didTurn; split <;> rfl
@[simp] theorem State.didTurn_elog (s : State) : s.didTurn.elog = s.elog := by
  unfold State.didTurn; split <;> rfl
@[simp] theorem State.didTurn_resp (s : State) : s.didTurn.resp = s.resp := by
  unfold State.didTurn; split <;> rfl
@[simp] theorem State.didTurn_link (s : State) : s.didTurn.link = s.link := by
  unfold State.didTurn; split <;> rfl
@[simp] theorem State.didTurn_waiting (s : State) : s.didTurn.waiting = s.waiting := by
  unfold State.didTurn; split <;> rfl
@[simp] theorem State.didTurn_wire (s : State) : s.didTurn.wire = s.wire := by
  unfold State.didTurn; split <;> rfl
@[simp] theorem State.didTurn_txIn (s : State) : s.didTurn.txIn = s.txIn := by
  unfold State.didTurn; split <;> rfl
@[simp] theorem State.didTurn_rxIn (s : State) : s.didTurn.rxIn = s.rxIn := by
  unfold State.didTurn; split <;> rfl
@[simp] theorem State.didTurn_diagIn (s : State) : s.didTurn.diagIn = s.diagIn := by
  unfold State.didTurn; split <;> rfl

end Sys2Proof.Machine
end

