-- ==== Sys2Proof/Laws/Ops.lean ====
section
/-! SUPPORT. What each shared operation can do, said once: later proofs cite these lemmas and do not
unfold the operations. -/

namespace Sys2Proof.Machine

/-! ## Queues -/

/-- A push appends to the entry's tier and leaves the other one. -/
theorem State.tier_push (s : State) (e : Entry) (p : Prio) :
    (s.push e).tier p = if p = e.prio then s.tier p ++ [e] else s.tier p := by
  unfold State.push
  cases p <;> cases he : e.prio <;> simp [State.tier]

/-- A pop takes the head of HIGH, or the head of LOW when HIGH is empty, or nothing when both are. -/
theorem State.pop?_cases (s : State) :
    (∃ e qh, s.qh = e :: qh ∧ s.pop? = some (e, qh, s.ql)) ∨
    (∃ e ql, s.qh = [] ∧ s.ql = e :: ql ∧ s.pop? = some (e, [], ql)) ∨
    (s.qh = [] ∧ s.ql = [] ∧ s.pop? = none) := by
  unfold State.pop?
  cases hh : s.qh with
  | cons e qh => exact .inl ⟨e, qh, rfl, rfl⟩
  | nil =>
    cases hl : s.ql with
    | cons e ql => exact .inr (.inl ⟨e, ql, rfl, rfl, rfl⟩)
    | nil => exact .inr (.inr ⟨rfl, rfl, rfl⟩)

/-! ## Failure accounting -/

/-- A failed attempt is counted and recorded, and then either the budget is left and the frame is
written again, or PCF is emitted and the engine is in FAILED. -/
theorem State.failAttempt_cases (s : State) (e : Entry) (err : ErrCode) :
    (s.failCnt + 1 < maxRetry ∧ s.failAttempt e err = (s.countFailure err).retryWrite) ∨
    (maxRetry ≤ s.failCnt + 1 ∧ s.failAttempt e err = (s.countFailure err).exhaust e err) := by
  unfold State.failAttempt
  by_cases h : s.failCnt + 1 < maxRetry
  · exact .inl ⟨h, by simp [h]⟩
  · exact .inr ⟨Nat.le_of_not_lt h, by simp [h]⟩

@[simp] theorem State.failAttempt_failCnt (s : State) (e : Entry) (err : ErrCode) :
    (s.failAttempt e err).failCnt = s.failCnt + 1 := by
  obtain ⟨-, h⟩ | ⟨-, h⟩ := s.failAttempt_cases e err <;> simp [h]

@[simp] theorem State.failAttempt_lastErr (s : State) (e : Entry) (err : ErrCode) :
    (s.failAttempt e err).lastErr = err := by
  obtain ⟨-, h⟩ | ⟨-, h⟩ := s.failAttempt_cases e err <;> simp [h]

/-! ## The steps that ask the transport -/

/-- What can follow a write: it is awaited, it failed, or the handle is lost. -/
theorem afterWrite_cases (e : Entry) (a : TxAnswer) (s : State) :
    (a = .ok ∧ afterWrite e a s = s.awaitResponse) ∨
    (a = .exc ∧ afterWrite e a s = s.failAttempt e .transportException) ∨
    (a = .lost ∧ afterWrite e a s = s.halt) := by
  cases a <;> simp [afterWrite]

/-- What can follow a read: the handle is lost, the attempt failed with some code, or the response
decoded and was dispatched. -/
theorem afterRead_cases (e : Entry) (a : RxAnswer) (s : State) :
    (a = .lost ∧ afterRead e a s = s.halt) ∨
    (∃ err, err ≠ .none ∧ err ≠ .persistentCommFailure ∧
      afterRead e a s = s.failAttempt e err) ∨
    (∃ b cmd payload, a = .bytes b ∧ b ≠ [] ∧ decodeFrame s.cfg b e.cmd = .ok cmd payload ∧
      afterRead e a s = s.succeed e cmd payload) := by
  cases a with
  | lost => exact .inl ⟨rfl, rfl⟩
  | exc => exact .inr (.inl ⟨.transportException, by decide, by decide, rfl⟩)
  | bytes b =>
    cases b with
    | nil => exact .inr (.inl ⟨.readTimeout, by decide, by decide, rfl⟩)
    | cons b bs =>
      cases h : decodeFrame s.cfg (b :: bs) e.cmd with
      | ok cmd payload => exact .inr (.inr ⟨b :: bs, cmd, payload, rfl, by simp, h, by
          simp [afterRead, afterDecode, h]⟩)
      | error err =>
        refine .inr (.inl ⟨err.toErr, ?_, ?_, by simp [afterRead, afterDecode, h]⟩) <;>
          cases err <;> decide

/-! ## The moves -/

/-- A listed move is the next one, and it is used up. -/
theorem State.nextTurn_cons (s : State) (t : Turn) (rest : List Turn) (h : s.turns = t :: rest) :
    s.nextTurn = t ∧ s.didTurn = { s with turns := rest } := by
  simp [State.nextTurn, State.didTurn, h]

/-- A step whose listed move is `t` is what that move comes to. -/
theorem step_cons (s : State) (t : Turn) (rest : List Turn) (h : s.turns = t :: rest) :
    step s = match fetchTurn t { s with turns := rest } with
      | .run i u => exec i u
      | .settle u => .next u := by
  obtain ⟨h1, h2⟩ := s.nextTurn_cons t rest h
  show (match fetchTurn s.nextTurn s.didTurn with
    | .run i u => exec i u
    | .settle u => .next u) = _
  rw [h1, h2]

/-- The engine's move, state by state (42_retry_engine.md R110). -/
theorem fetchEngine_eq (s : State) :
    fetchEngine s = match s.st with
      | .idle => .run .deq s
      | .writing => .run .write s
      | .await => .run .recv s
      | .success => .run .complete s
      | .failed => .run .resume s
      | .halted => .settle s := by
  unfold fetchEngine
  cases s.st <;> rfl

end Sys2Proof.Machine
end

