-- ==== Sys2Proof/Laws/Codec.lean ====
section
/-! SUPPORT. Small lemmas about the bit fields and the codec functions, one for each way a definition
recurses, so that later proofs do not unfold them. -/

namespace Sys2Proof

/-! ## Byte order -/

@[simp] theorem loByte_u16Of (lo hi : Byte) : loByte (u16Of lo hi) = lo := by
  simp only [loByte, u16Of]
  ext i h
  simp only [BitVec.getElem_extractLsb', BitVec.getLsbD_append]
  simp [h]

@[simp] theorem hiByte_u16Of (lo hi : Byte) : hiByte (u16Of lo hi) = hi := by
  simp only [hiByte, u16Of]
  ext i h
  simp only [BitVec.getElem_extractLsb', BitVec.getLsbD_append]
  simp [h, BitVec.getLsbD_eq_getElem]

@[simp] theorem u16Of_lo_hi (v : U16) : u16Of (loByte v) (hiByte v) = v :=
  BitVec.eq_of_toNat_eq (by
    have hv := v.isLt
    simp only [loByte, hiByte, u16Of, BitVec.toNat_append, BitVec.extractLsb'_toNat,
      Nat.shiftRight_eq_div_pow]
    rw [← Nat.shiftLeft_add_eq_or_of_lt (Nat.mod_lt _ (by decide))]
    simp only [Nat.shiftLeft_eq]
    omega)

@[simp] theorem bytesOfU16_length (v : U16) : (bytesOfU16 v).length = 2 := rfl

@[simp] theorem bytesOfCount_length (n : Nat) : (bytesOfCount n).length = 2 := rfl

@[simp] theorem bytesOfWord_length (w : Word) : (bytesOfWord w).length = 4 := rfl

namespace Machine

/-! ## Checksum -/

@[simp] theorem cksumFrom_nil (table : Vector U16 256) (c : U16) : cksumFrom table c [] = c := rfl

@[simp] theorem cksumFrom_cons (table : Vector U16 256) (c : U16) (b : Byte) (d : List Byte) :
    cksumFrom table c (b :: d) = cksumFrom table (cksumRound table c b) d := rfl

/-! ## Stuffing -/

@[simp] theorem stuffBytes_nil : stuffBytes [] = [] := rfl

@[simp] theorem stuffBytes_cons (b : Byte) (x : List Byte) :
    stuffBytes (b :: x) = b :: x.flatMap stuffByte := rfl

theorem stuffByte_special (b : Byte) (h : isSpecial b = true) : stuffByte b = [esc, b] := by
  simp [stuffByte, h]

theorem stuffByte_plain (b : Byte) (h : isSpecial b = false) : stuffByte b = [b] := by
  simp [stuffByte, h]

@[simp] theorem unstuffBytes_nil (lone : LoneEsc) : unstuffBytes lone [] = .ok [] := rfl

/-- An escape pair collapses to its second byte. -/
theorem unstuffBytes_pair (lone : LoneEsc) (c : Byte) (rest : List Byte)
    (h : c = start ∨ c = esc) :
    unstuffBytes lone (esc :: c :: rest) = (unstuffBytes lone rest).map (c :: ·) := by
  simp [unstuffBytes, h]

/-- A byte other than the escape byte passes unchanged. -/
theorem unstuffBytes_plain (lone : LoneEsc) (b : Byte) (rest : List Byte) (h : b ≠ esc) :
    unstuffBytes lone (b :: rest) = (unstuffBytes lone rest).map (b :: ·) := by
  cases rest with
  | nil => simp [unstuffBytes, h, Except.map]
  | cons c rest => simp [unstuffBytes, h]

/-- An escape byte before an ordinary byte passes unchanged. -/
theorem unstuffBytes_escOther (lone : LoneEsc) (c : Byte) (rest : List Byte)
    (h : c ≠ start ∧ c ≠ esc) :
    unstuffBytes lone (esc :: c :: rest) = (unstuffBytes lone (c :: rest)).map (esc :: ·) := by
  simp [unstuffBytes, h.1, h.2]

/-! ## Frames -/

@[simp] theorem framePrefix_length (cfg : Config) (cmd : Byte) (payload : List Byte) :
    (framePrefix cfg cmd payload).length = payload.length + 5 := by
  simp [framePrefix]; omega

@[simp] theorem plainFrame_length (cfg : Config) (cmd : Byte) (payload : List Byte) :
    (plainFrame cfg cmd payload).length = payload.length + 7 := by
  simp [plainFrame]

end Machine

end Sys2Proof
end

