-- ==== Sys2Proof/Laws/Moves.lean ====
section
/-! SUPPORT. What a move of an agent other than the engine can do, what a run of several moves is, and
what the moves to come say of the next one. -/

namespace Sys2Proof.Machine

/-- A host operation other than RST touches the tiers, the generation, the responses and the held
producers, and nothing else. -/
theorem exec_producer (i : Instr) (s : State) (hf : i.format = .host) (hr : i ≠ .rst) :
    ∃ qh ql gen resp waiting,
      exec i s = .next { s with qh := qh, ql := ql, gen := gen, resp := resp, waiting := waiting } := by
  cases i with
  | enq p cmd payload =>
    simp only [exec, execEnq]
    split
    · exact ⟨s.qh, s.ql, s.gen, _, s.waiting, rfl⟩
    · split
      · exact ⟨s.qh, s.ql, s.gen, s.resp, _, rfl⟩
      · cases p
        · exact ⟨_, s.ql, s.gen, _, s.waiting, rfl⟩
        · exact ⟨s.qh, _, s.gen, _, s.waiting, rfl⟩
  | clr => exact ⟨_, _, _, _, s.waiting, rfl⟩
  | rst => exact absurd rfl hr
  | stat | cksum | stuff | unstuff | encode | decode =>
    exact ⟨s.qh, s.ql, s.gen, _, s.waiting, rfl⟩
  | _ => cases hf

/-- A wire token or a frame touches the token reader only. -/
theorem exec_wire (i : Instr) (s : State) (hf : i.format = .wireToken ∨ i.format = .wireFrame) :
    ∃ w, exec i s = .next { s with wire := w } := by
  cases i with
  | escLone =>
    simp only [exec, execEscLone]
    cases s.cfg.loneEsc <;> exact ⟨_, rfl⟩
  | escStart | escEsc | escOther | byte | frame => exact ⟨_, rfl⟩
  | _ => simp [Instr.format] at hf

/-- What a host request decodes to is a host operation. -/
theorem decodeHost_format {bytes : List Byte} {i : Instr} (h : decode .host bytes = .ok i) :
    i.format = .host := by
  have instr_format (op : HostOp) (w : Word) (d : List Byte) : (op.instr w d).format = .host := by
    cases op <;> rfl
  simp only [decode, decodeHost, decodeData] at h
  repeat' split at h
  all_goals cases h
  all_goals exact instr_format ..

/-- A token of the raw bytes is a wire token. -/
theorem decodeToken_format {raw : List Byte} {i : Instr} (h : decode .wireToken raw = .ok i) :
    i.format = .wireToken := by
  simp only [decode, decodeToken] at h
  repeat' split at h
  all_goals cases h
  all_goals rfl

/-- What unstuffed bytes decode to is a frame. -/
theorem decodeFrameBytes_format {f : List Byte} {i : Instr} (h : decode .wireFrame f = .ok i) :
    i.format = .wireFrame := by
  simp only [decode, decodeFrameBytes] at h
  repeat' split at h
  all_goals cases h
  all_goals rfl

/-- A move of an agent other than the engine that is no request for RST answers a next state, and
touches the tiers, the generation, the responses, the held producers and the token reader only. -/
theorem step_other (s : State) (he : s.nextTurn ≠ .engine) (hr : s.nextTurn.asksRst = false) :
    ∃ qh ql gen resp waiting wire,
      step s = .next { s.didTurn with qh := qh, ql := ql, gen := gen, resp := resp,
                                      waiting := waiting, wire := wire } := by
  simp only [step, fetch]
  generalize s.didTurn = u
  cases ht : s.nextTurn with
  | engine => exact absurd ht he
  | load exp raw => exact ⟨u.qh, u.ql, u.gen, u.resp, u.waiting, _, rfl⟩
  | request bytes =>
    simp only [fetchTurn, fetchRequest]
    cases hd : decode .host bytes with
    | error r => exact ⟨u.qh, u.ql, u.gen, _, u.waiting, u.wire, rfl⟩
    | ok i =>
      have hne : i ≠ .rst := by
        rintro rfl
        simp [ht, Turn.asksRst, hd] at hr
      obtain ⟨qh, ql, gen, resp, waiting, h⟩ := exec_producer i u (decodeHost_format hd) hne
      exact ⟨qh, ql, gen, resp, waiting, u.wire, h⟩
  | retry k =>
    simp only [fetchTurn, fetchRetry]
    cases hk : u.waiting[k]? with
    | none => exact ⟨u.qh, u.ql, u.gen, u.resp, u.waiting, u.wire, rfl⟩
    | some h =>
      obtain ⟨qh, ql, gen, resp, waiting, h⟩ :=
        exec_producer (.enq h.prio h.cmd h.payload) (u.unpark k) rfl (by simp)
      exact ⟨qh, ql, gen, resp, waiting, u.wire, h⟩
  | wire =>
    simp only [fetchTurn, fetchWire]
    cases u.wire.result with
    | some _ => exact ⟨u.qh, u.ql, u.gen, u.resp, u.waiting, u.wire, rfl⟩
    | none =>
      cases hd : decode .wireToken u.wire.raw with
      | ok i =>
        obtain ⟨w, h⟩ := exec_wire i u (.inl (decodeToken_format hd))
        exact ⟨u.qh, u.ql, u.gen, u.resp, u.waiting, w, h⟩
      | error _ =>
        simp only []
        cases hd : decode .wireFrame u.wire.out with
        | ok i =>
          obtain ⟨w, h⟩ := exec_wire i u (.inr (decodeFrameBytes_format hd))
          exact ⟨u.qh, u.ql, u.gen, u.resp, u.waiting, w, h⟩
        | error _ => exact ⟨u.qh, u.ql, u.gen, u.resp, u.waiting, _, rfl⟩

/-! ## Runs -/

@[simp] theorem State.runs_zero (s : State) : s.runs 0 = some s := rfl

/-- A run goes on from the next state. -/
theorem State.runs_succ {s t : State} (h : step s = .next t) (k : Nat) :
    s.runs (k + 1) = t.runs k := by simp [State.runs, h]

/-- A run is one part after the other. -/
theorem State.runs_add (a b : Nat) (s : State) :
    s.runs (a + b) = (s.runs a).bind (State.runs b) := by
  induction a generalizing s with
  | zero => simp
  | succ a ih =>
    rw [Nat.add_right_comm]
    simp only [State.runs]
    cases step s <;> simp [ih]

@[simp] theorem State.moves_zero (s : State) : s.moves 0 = [] := rfl

/-- The moves to come are the next one and those after it. -/
theorem State.moves_succ {s t : State} (h : step s = .next t) (k : Nat) :
    s.moves (k + 1) = s.nextTurn :: t.moves k := by simp [State.moves, h]

/-- The next move is among the moves to come. -/
theorem State.nextTurn_mem_moves (s : State) (k : Nat) : s.nextTurn ∈ s.moves (k + 1) := by
  simp [State.moves]

end Sys2Proof.Machine
end

