-- ==== Sys2Proof/Laws/PerInstr.lean ====
section
/-! SUPPORT. Statements about every instruction as syntax, one lemma per constructor. -/

namespace Sys2Proof.Laws.EncodedLength

/-- A well-formed instruction has at least one byte, and at most the 1030 of a request with the longest
data part (30_encoding.md R74, R75). -/
def Statement (i : Instr) : Prop :=
  i.wellFormed = true → 1 ≤ (encode i).length ∧ (encode i).length ≤ 1030

/-- The length of a request with a data part. -/
theorem encodeRequest_length (w : Word) (data : List Byte) :
    (encodeRequest w data).length = data.length + 6 := by
  simp [encodeRequest]; omega

theorem enq (p : Prio) (cmd : Byte) (payload : List Byte) : Statement (.enq p cmd payload) := by
  intro h
  simp only [Instr.wellFormed, decide_eq_true_eq] at h
  simp only [maxPayload] at h
  simp only [encode, encodeRequest_length]
  omega

theorem clr : Statement .clr := by simp [Statement, encode]

theorem stat : Statement .stat := by simp [Statement, encode]

theorem rst : Statement .rst := by simp [Statement, encode]

theorem cksum (d : List Byte) : Statement (.cksum d) := by
  intro h
  simp only [Instr.wellFormed, decide_eq_true_eq] at h
  simp only [hostMaxData] at h
  simp only [encode, encodeRequest_length]
  omega

theorem stuff (x : List Byte) : Statement (.stuff x) := by
  intro h
  simp only [Instr.wellFormed, decide_eq_true_eq] at h
  simp only [hostMaxData] at h
  simp only [encode, encodeRequest_length]
  omega

theorem unstuff (r : List Byte) : Statement (.unstuff r) := by
  intro h
  simp only [Instr.wellFormed, decide_eq_true_eq] at h
  simp only [hostMaxData] at h
  simp only [encode, encodeRequest_length]
  omega

theorem encode (cmd : Byte) (payload : List Byte) : Statement (.encode cmd payload) := by
  intro h
  simp only [Instr.wellFormed, decide_eq_true_eq] at h
  simp only [maxPayload] at h
  simp only [Sys2Proof.encode, encodeRequest_length]
  omega

theorem decode (exp : Byte) (raw : List Byte) : Statement (.decode exp raw) := by
  intro h
  simp only [Instr.wellFormed, decide_eq_true_eq] at h
  simp only [hostMaxData] at h
  simp only [Sys2Proof.encode, encodeRequest_length]
  omega

theorem deq : Statement .deq := by simp [Statement, Sys2Proof.encode]

theorem write : Statement .write := by simp [Statement, Sys2Proof.encode]

theorem recv : Statement .recv := by simp [Statement, Sys2Proof.encode]

theorem complete : Statement .complete := by simp [Statement, Sys2Proof.encode]

theorem resume : Statement .resume := by simp [Statement, Sys2Proof.encode]

theorem escStart : Statement .escStart := by simp [Statement, Sys2Proof.encode]

theorem escEsc : Statement .escEsc := by simp [Statement, Sys2Proof.encode]

theorem escOther (b : Byte) : Statement (.escOther b) := by simp [Statement, Sys2Proof.encode]

theorem escLone : Statement .escLone := by simp [Statement, Sys2Proof.encode]

theorem byte (b : Byte) : Statement (.byte b) := by simp [Statement, Sys2Proof.encode]

theorem frame (rtu : Byte) (len : U16) (cmd : Byte) (payload : List Byte) (ck : U16) :
    Statement (.frame rtu len cmd payload ck) := by
  intro h
  simp only [Instr.wellFormed, decide_eq_true_eq] at h
  simp only [maxPayload] at h
  simp only [Sys2Proof.encode, frameBytes, List.length_append, List.length_cons, List.length_nil,
    bytesOfU16_length]
  omega

end Sys2Proof.Laws.EncodedLength
end

