-- ==== Sys2Proof/Tests/Slice0.lean ====
section
/-! SUPPORT. Tests: expected results are the vectors of 95_test_vectors.md (K, S, V, D, H, Q, T and the
programs P; each test names its vector) or words written out from 30_encoding.md. At the end, one
witness for each statement with hypotheses: concrete data that meets them, at the boundaries of their
ranges. -/

namespace Sys2Proof.Tests

set_option maxRecDepth 20000

open Sys2Proof.Machine Sys2Proof.Claims

/-! ## The test instance TEST_ARC (95_test_vectors.md §0) -/

/-- One bit of the table's generation. -/
def arcBit (c : Nat) : Nat := if c % 2 = 1 then (c / 2) ^^^ 0xA001 else c / 2

/-- Entry `i` of the ARC table. -/
def arcEntry (i : Nat) : U16 :=
  BitVec.ofNat 16 (arcBit (arcBit (arcBit (arcBit (arcBit (arcBit (arcBit (arcBit i))))))))

/-- The configuration TEST_ARC. -/
def testArc : Config where
  rtuId      := 0x01#8
  cksumTable := Vector.ofFn fun i => arcEntry i.val
  queueDepth := none
  rxMax      := 523
  dispatch   := Vector.ofFn fun i =>
    if i.val = 0x21 then .weighment else if i.val = 0x30 ∨ i.val = 0x31 then .status else .logOnly
  loneEsc    := .malformed
  genW       := none

/-- TEST_ARC with LONE_ESC = LITERAL. -/
def testLiteral : Config := { testArc with loneEsc := .literal }

/-- The reset state under TEST_ARC. -/
def bare : State := { State.reset with cfg := testArc }

/-- The command of the T vectors, `{21, [05], 0, 0}`. -/
def cmd21 : Entry := ⟨0x21#8, [0x05#8], .high, 0⟩

/-- The frame V2. -/
def v2 : List Byte := [0x7E#8, 0x01#8, 0x02#8, 0x00#8, 0x21#8, 0x05#8, 0xEE#8, 0x35#8]

/-- The response Rok. -/
def rok : List Byte := [0x7E#8, 0x01#8, 0x03#8, 0x00#8, 0x21#8, 0x2D#8, 0x00#8, 0x96#8, 0x8C#8]

/-- The start of the T vectors, after `k` failures. -/
def flying (k : Nat) : State :=
  { bare with st := .writing, cur := some cmd21, frame := v2, failCnt := k }

/-- The same, the frame written. -/
def waitingFor (k : Nat) (a : RxAnswer) : State := { flying k with st := .await, rxIn := [a] }

/-- A value of what comes after a step, where it is a next state. -/
def next? {α : Type} (o : Host.Outcome State Fault Refusal) (f : State → α) : Option α :=
  match o with
  | .next t => some (f t)
  | .fault _ => none
  | .refused _ => none

/-- The last response after an instruction at `s`. -/
def answer (s : State) (i : Instr) : Option (List Byte) :=
  (next? (exec i s) fun t => t.resp.getLast?).join

/-- A producer's request, about to be issued. -/
def asking (bytes : List Byte) : State := { bare with turns := [.request bytes] }

/-! ## Well-formedness: each check refuses an ill-formed term -/

theorem test_wf_enq : (Instr.enq .high 0#8 (List.replicate 256 0#8)).wellFormed = false := by decide
theorem test_wf_cksum : (Instr.cksum (List.replicate 1025 0#8)).wellFormed = false := by decide
theorem test_wf_stuff : (Instr.stuff (List.replicate 1025 0#8)).wellFormed = false := by decide
theorem test_wf_unstuff : (Instr.unstuff (List.replicate 1025 0#8)).wellFormed = false := by decide
theorem test_wf_encode : (Instr.encode 0#8 (List.replicate 256 0#8)).wellFormed = false := by decide
theorem test_wf_decode : (Instr.decode 0#8 (List.replicate 1025 0#8)).wellFormed = false := by decide
theorem test_wf_escOther_start : (Instr.escOther 0x7E#8).wellFormed = false := by decide
theorem test_wf_escOther_esc : (Instr.escOther 0x10#8).wellFormed = false := by decide
theorem test_wf_byte : (Instr.byte 0x10#8).wellFormed = false := by decide
theorem test_wf_frame_len : (Instr.frame 1#8 3#16 0#8 [5#8] 0#16).wellFormed = false := by decide
theorem test_wf_frame_payload :
    (Instr.frame 1#8 257#16 0#8 (List.replicate 256 0#8) 0#16).wellFormed = false := by decide

/-- A DISPATCH with the reserved code 3 is refused at configuration (93_implementation_defined.md
I21). -/
theorem test_dispatch_reserved :
    dispatchOfCodes (Vector.ofFn fun i => if i.val = 255 then 3#2 else 0#2) = none := by
  unfold dispatchOfCodes
  rw [dif_neg]
  intro h
  exact absurd (h 255) (by decide)

/-! ## Decoding, by words written out from the encodings -/

/-- H1. -/
theorem test_decode_enq :
    decode .host [0x01#8, 0x01#8, 0x30#8, 0x00#8, 0x00#8, 0x00#8] = .ok (.enq .low 0x30#8 []) := by
  decide
theorem test_decode_clr : decode .host [0x02#8, 0#8, 0#8, 0#8] = .ok .clr := by decide
theorem test_decode_stat : decode .host [0x03#8, 0#8, 0#8, 0#8] = .ok .stat := by decide
theorem test_decode_rst : decode .host [0x04#8, 0#8, 0#8, 0#8] = .ok .rst := by decide
theorem test_decode_cksum :
    decode .host [0x10#8, 0#8, 0#8, 0#8, 0x02#8, 0x00#8, 0x31#8, 0x32#8]
      = .ok (.cksum [0x31#8, 0x32#8]) := by decide
theorem test_decode_stuff :
    decode .host [0x11#8, 0#8, 0#8, 0#8, 0x01#8, 0x00#8, 0x7E#8] = .ok (.stuff [0x7E#8]) := by decide
theorem test_decode_unstuff :
    decode .host [0x12#8, 0#8, 0#8, 0#8, 0x02#8, 0x00#8, 0x41#8, 0x10#8]
      = .ok (.unstuff [0x41#8, 0x10#8]) := by decide
theorem test_decode_encode :
    decode .host [0x13#8, 0#8, 0x21#8, 0#8, 0x01#8, 0x00#8, 0x05#8]
      = .ok (.encode 0x21#8 [0x05#8]) := by decide
theorem test_decode_decode :
    decode .host [0x14#8, 0#8, 0x22#8, 0#8, 0x00#8, 0x00#8] = .ok (.decode 0x22#8 []) := by decide
theorem test_decode_deq : decode .engineStep [0x80#8, 0#8, 0#8, 0#8] = .ok .deq := by decide
theorem test_decode_write : decode .engineStep [0x81#8, 0#8, 0#8, 0#8] = .ok .write := by decide
theorem test_decode_recv : decode .engineStep [0x82#8, 0#8, 0#8, 0#8] = .ok .recv := by decide
theorem test_decode_complete : decode .engineStep [0x83#8, 0#8, 0#8, 0#8] = .ok .complete := by decide
theorem test_decode_resume : decode .engineStep [0x84#8, 0#8, 0#8, 0#8] = .ok .resume := by decide
theorem test_decode_noStep : decode .engineStep [0x85#8, 0#8, 0#8, 0#8] = .error .noStep := by decide
theorem test_decode_escStart : decode .wireToken [0x10#8, 0x7E#8] = .ok .escStart := by decide
theorem test_decode_escEsc : decode .wireToken [0x10#8, 0x10#8, 0x7E#8] = .ok .escEsc := by decide
theorem test_decode_escOther : decode .wireToken [0x10#8, 0x41#8] = .ok (.escOther 0x41#8) := by decide
theorem test_decode_escLone : decode .wireToken [0x10#8] = .ok .escLone := by decide
theorem test_decode_byte : decode .wireToken [0x7E#8, 0x10#8] = .ok (.byte 0x7E#8) := by decide
theorem test_decode_frame :
    decode .wireFrame [0x7E#8, 0x01#8, 0x01#8, 0x00#8, 0x30#8, 0x78#8, 0x22#8]
      = .ok (.frame 0x01#8 1#16 0x30#8 [] 0x2278#16) := by decide
theorem test_decode_shortFrame :
    decode .wireFrame [0x7E#8, 0x01#8, 0x01#8, 0x00#8, 0x30#8, 0x78#8] = .error .shortFrame := by decide
theorem test_decode_noStart :
    decode .wireFrame [0x7F#8, 0x01#8, 0x01#8, 0x00#8, 0x30#8, 0x78#8, 0x22#8] = .error .noStart := by
  decide

/-- H6 to H11 and H16: words that spell no operation. -/
theorem test_illegal_words :
    ([[0x00#8, 0#8, 0#8, 0#8], [0x80#8, 0#8, 0#8, 0#8], [0x02#8, 0x01#8, 0#8, 0#8],
      [0x02#8, 0#8, 0x21#8, 0#8], [0x03#8, 0#8, 0#8, 0x01#8], [0x01#8, 0x02#8, 0#8, 0#8, 0#8, 0#8],
      [0x14#8, 0x01#8, 0x21#8, 0#8, 0#8, 0#8]].map (decode .host))
      = List.replicate 7 (.error .illegal) := by decide

/-- H12 to H15: the count before the data part. -/
theorem test_count_before_data :
    ([[0x01#8, 0x01#8, 0x30#8, 0#8, 0#8, 0x01#8], [0x01#8, 0#8, 0x21#8, 0#8, 0x02#8, 0#8, 0x05#8],
      [0x10#8, 0#8, 0#8, 0#8], [0x14#8, 0#8, 0x21#8, 0#8, 0x01#8, 0x04#8]].map (decode .host))
      = [.error .tooLong, .error .illegal, .error .illegal, .error .tooLong] := by decide

/-- The opcode table's numbers: a host word, a step code, tokens (first byte high), a frame. -/
theorem test_table_words :
    decodeTableWord 32 0x01 = some (.enq .high 0#8 []) ∧ decodeTableWord 32 0x84 = some .resume ∧
    decodeTableWord 16 0x107E = some .escStart ∧ decodeTableWord 16 0x1010 = some .escEsc ∧
    decodeTableWord 8 0x10 = some .escLone ∧ decodeTableWord 8 0x00 = some (.byte 0#8) ∧
    decodeTableWord 56 0x7E = some (.frame 0#8 0#16 0#8 [] 0#16) := by decide

/-- A placed word is the next instruction that runs. -/
theorem test_placed_words :
    next? (step (State.reset.withFetchWord 32 0x02)) State.gen = some 1 ∧
    next? (step (State.reset.withFetchWord 32 0x84)) State.st = some .idle ∧
    next? (step (State.reset.withFetchWord 16 0x107E)) (fun t => t.wire.out) = some [0x7E#8] := by
  decide

/-! ## Host operations -/

/-- K7, the check value: "123456789" gives BB3D. -/
theorem test_cksum_k7 :
    answer bare (.cksum [0x31#8, 0x32#8, 0x33#8, 0x34#8, 0x35#8, 0x36#8, 0x37#8, 0x38#8, 0x39#8])
      = some [0x00#8, 0x3D#8, 0xBB#8] := by decide

/-- K11. -/
theorem test_cksum_k11 :
    answer bare (.cksum [0x7E#8, 0x01#8, 0x00#8, 0x00#8]) = some [0x00#8, 0x49#8, 0xE8#8] := by decide

/-- S4. -/
theorem test_stuff_s4 :
    answer bare (.stuff [0x7E#8, 0x01#8, 0x10#8, 0x7E#8])
      = some [0x00#8, 0x06#8, 0x00#8, 0x7E#8, 0x01#8, 0x10#8, 0x10#8, 0x10#8, 0x7E#8] := by decide

/-- S3: index 0 is never escaped. -/
theorem test_stuff_s3 : answer bare (.stuff [0x10#8]) = some [0x00#8, 0x01#8, 0x00#8, 0x10#8] := by
  decide

/-- S9, MALFORMED and LITERAL. -/
theorem test_unstuff_s9 :
    answer bare (.unstuff [0x41#8, 0x10#8]) = some [0x00#8, 0x06#8, 0x00#8, 0x00#8] ∧
    answer { bare with cfg := testLiteral } (.unstuff [0x41#8, 0x10#8])
      = some [0x00#8, 0x00#8, 0x02#8, 0x00#8, 0x41#8, 0x10#8] := by decide

/-- S6, S8 and S11. -/
theorem test_unstuff_pairs :
    unstuffBytes .malformed [0x7E#8, 0x01#8, 0x10#8, 0x10#8, 0x10#8, 0x7E#8]
      = .ok [0x7E#8, 0x01#8, 0x10#8, 0x7E#8] ∧
    unstuffBytes .malformed [0x10#8, 0x41#8] = .ok [0x10#8, 0x41#8] ∧
    unstuffBytes .malformed [0x10#8, 0x10#8, 0x10#8, 0x10#8] = .ok [0x10#8, 0x10#8] := by decide

/-- V2. -/
theorem test_encode_v2 :
    answer bare (.encode 0x21#8 [0x05#8]) = some (0x00#8 :: 0x08#8 :: 0x00#8 :: v2) := by decide

/-- V12: the low checksum byte 7E is escaped. -/
theorem test_encode_v12 :
    encodeFrame testArc 0x21#8 [0x4C#8, 0x01#8]
      = [0x7E#8, 0x01#8, 0x03#8, 0x00#8, 0x21#8, 0x4C#8, 0x01#8, 0x10#8, 0x7E#8, 0xDC#8] := by decide

/-- D1 to D6, D8, D9, D11 and D14: the order of the checks. -/
theorem test_decode_errors :
    decodeFrame testArc [] 0x21#8 = .error .headerMismatch ∧
    decodeFrame testArc [0x7E#8] 0x21#8 = .error .rtuMismatch ∧
    decodeFrame testArc [0x7E#8, 0x02#8, 0x02#8, 0x00#8, 0x21#8, 0x05#8, 0xEE#8, 0x35#8] 0x21#8
      = .error .rtuMismatch ∧
    decodeFrame testArc v2 0x22#8 = .error .commandMismatch ∧
    decodeFrame testArc (v2.take 4) 0x21#8 = .error .lengthMismatch ∧
    decodeFrame testArc (v2 ++ [0x00#8]) 0x21#8 = .error .lengthMismatch ∧
    decodeFrame testArc [0x7E#8, 0x01#8, 0x02#8, 0x00#8, 0x21#8, 0x05#8, 0xEE#8, 0x36#8] 0x21#8
      = .error .checksumMismatch ∧
    decodeFrame testArc (v2 ++ [0x10#8]) 0x21#8 = .error .malformedFrame ∧
    decodeFrame testArc [0x7E#8, 0x01#8, 0x00#8, 0x00#8, 0x49#8, 0xE8#8] 0x49#8
      = .error .lengthMismatch := by decide

/-- D15 and D20, and the response of DECODE to V2. -/
theorem test_decode_ok :
    decodeFrame testArc (0x10#8 :: v2) 0x21#8 = .ok 0x21#8 [0x05#8] ∧
    decodeFrame testArc [0x7E#8, 0x01#8, 0x03#8, 0x00#8, 0x10#8, 0x10#8, 0x10#8, 0x10#8, 0x10#8,
      0x7E#8, 0x57#8, 0xF3#8] 0x10#8 = .ok 0x10#8 [0x10#8, 0x7E#8] ∧
    answer bare (.decode 0x21#8 v2)
      = some [0x00#8, 0x00#8, 0x21#8, 0x01#8, 0x00#8, 0x05#8] := by decide

/-- P4, lines 7 and 8: 0xF0 and 0xF1, with no entry queued. -/
theorem test_rejected_requests :
    next? (step (asking [0x80#8, 0#8, 0#8, 0#8])) (fun t => (t.resp, t.qh, t.ql))
      = some ([[0xF0#8]], [], []) ∧
    next? (step (asking [0x01#8, 0x01#8, 0x30#8, 0#8, 0#8, 0x01#8])) (fun t => (t.resp, t.qh, t.ql))
      = some ([[0xF1#8]], [], []) := by decide

/-! ## The scheduler -/

/-- H2. -/
theorem test_enq :
    next? (step (asking [0x01#8, 0#8, 0x21#8, 0#8, 0x01#8, 0#8, 0x05#8]))
      (fun t => (t.qh, t.ql, t.resp)) = some ([cmd21], [], [[0x00#8]]) := by decide

/-- Q6: the full tier holds, the other does not. -/
theorem test_enq_held :
    next? (exec (.enq .high 0x31#8 [])
        { bare with cfg := { testArc with queueDepth := some 1 }, qh := [cmd21] })
      (fun t => (t.qh.length, t.waiting.length, t.resp)) = some (1, 1, []) ∧
    next? (exec (.enq .low 0x31#8 [])
        { bare with cfg := { testArc with queueDepth := some 1 }, qh := [cmd21] })
      (fun t => (t.ql.length, t.waiting.length, t.resp)) = some (1, 0, [[0x00#8]]) := by decide

/-- Q4. -/
theorem test_clr :
    next? (exec .clr { flying 0 with ql := [⟨0x30#8, [], .low, 0⟩] })
      (fun t => (t.ql, t.gen, t.st, t.cur)) = some ([], 1, .writing, some cmd21) := by decide

/-- GEN_W finite: the counter wraps (70_reset_and_hazards.md R157). -/
theorem test_clr_wraps :
    next? (exec .clr { bare with cfg := { testArc with genW := some 2 }, gen := 3 }) State.gen
      = some 0 := by decide

/-- P2, line 24. -/
theorem test_stat_p2 :
    answer { flying 10 with st := .failed, lastErr := .readTimeout } .stat
      = some [0x00#8, 0x04#8, 0x0A#8, 0x07#8, 0#8, 0#8, 0#8, 0#8, 0#8, 0#8, 0x01#8, 0x21#8] := by decide

/-- P5, line 8. -/
theorem test_stat_p5 :
    answer { bare with st := .halted, cur := some ⟨0x30#8, [], .low, 0⟩, qh := [cmd21],
                       ql := [⟨0x31#8, [], .low, 0⟩] } .stat
      = some [0x00#8, 0x05#8, 0#8, 0#8, 0#8, 0#8, 0x01#8, 0#8, 0x01#8, 0#8, 0x01#8, 0x30#8] := by decide

/-- Q2. -/
theorem test_deq :
    next? (exec .deq { bare with qh := [cmd21], ql := [⟨0x30#8, [], .low, 0⟩] })
      (fun t => (t.cur, t.frame, t.st, t.qh, t.ql))
      = some (some cmd21, v2, .writing, [], [⟨0x30#8, [], .low, 0⟩]) := by decide

/-- Q1 and P5, line 7: held, and not enabled. -/
theorem test_deq_held :
    next? (exec .deq bare) (fun t => (t.st, t.cur)) = some (.idle, none) ∧
    next? (exec .deq { bare with st := .halted, qh := [cmd21] }) (fun t => (t.st, t.cur, t.qh))
      = some (.halted, none, [cmd21]) := by decide

/-! ## The retry engine -/

/-- T1 and T3. -/
theorem test_write :
    next? (exec .write { flying 0 with txIn := [.ok] }) (fun t => (t.st, t.failCnt, t.link))
      = some (.await, 0, [.write v2]) ∧
    next? (exec .write { flying 0 with txIn := [.lost] }) (fun t => (t.st, t.failCnt, t.lastErr, t.cur))
      = some (.halted, 0, .none, some cmd21) := by decide

/-- T2 and T13. -/
theorem test_write_exc :
    next? (exec .write { flying 0 with txIn := [.exc] }) (fun t => (t.st, t.failCnt, t.lastErr, t.elog))
      = some (.writing, 1, .transportException, []) ∧
    next? (exec .write { flying 9 with txIn := [.exc], diagIn := [[0xD1#8]] })
      (fun t => (t.st, t.failCnt, t.lastErr, t.elog))
      = some (.failed, 10, .transportException,
          [⟨0, 0x21#8, [0x05#8], .transportException, [0xD1#8]⟩]) := by decide

/-- T7 and T14: a success resets the counter and keeps the last error. -/
theorem test_recv_ok :
    next? (exec .recv (waitingFor 0 (.bytes rok))) (fun t => (t.st, t.failCnt, t.dlog))
      = some (.success, 0, [⟨0, 0x21#8, [0x2D#8, 0x00#8], .weighment⟩]) ∧
    next? (exec .recv { waitingFor 9 (.bytes rok) with lastErr := .readTimeout })
      (fun t => (t.st, t.failCnt, t.lastErr)) = some (.success, 0, .readTimeout) := by decide

/-- T4, T5, T9, T11 and T12. -/
theorem test_recv_fails :
    next? (exec .recv (waitingFor 0 (.bytes []))) (fun t => (t.st, t.failCnt, t.lastErr))
      = some (.writing, 1, .readTimeout) ∧
    next? (exec .recv (waitingFor 0 .exc)) (fun t => (t.st, t.failCnt, t.lastErr))
      = some (.writing, 1, .transportException) ∧
    next? (exec .recv (waitingFor 0 (.bytes
        [0x7E#8, 0x01#8, 0x01#8, 0x00#8, 0x30#8, 0x78#8, 0x22#8]))) (fun t => (t.st, t.lastErr))
      = some (.writing, .commandMismatch) ∧
    next? (exec .recv (waitingFor 0 (.bytes (rok ++ [0x10#8])))) (fun t => (t.st, t.lastErr))
      = some (.writing, .malformedFrame) ∧
    next? (exec .recv { waitingFor 9 (.bytes []) with diagIn := [[0xD1#8]] })
      (fun t => (t.st, t.failCnt, t.elog))
      = some (.failed, 10, [⟨0, 0x21#8, [0x05#8], .readTimeout, [0xD1#8]⟩]) := by decide

/-- T8. -/
theorem test_complete :
    next? (exec .complete { flying 0 with st := .success, lastErr := .readTimeout })
      (fun t => (t.st, t.cur, t.frame, t.lastErr)) = some (.idle, none, [], .readTimeout) := by decide

/-- T15. -/
theorem test_resume :
    next? (exec .resume { flying 10 with st := .failed, lastErr := .readTimeout })
      (fun t => (t.st, t.cur, t.frame, t.failCnt, t.lastErr))
      = some (.idle, none, [], 0, .readTimeout) := by decide

/-- HALTED, after events and errors. -/
def halted : State :=
  { flying 3 with st := .halted, ql := [cmd21], gen := 7, lastErr := .readTimeout,
                  dlog := [⟨0, 0x30#8, [], .status⟩] }

/-- P5, line 9: RST leaves HALTED and keeps the logs. -/
theorem test_rst :
    next? (exec .rst halted) (fun t => (t.st, t.cur, t.frame, t.failCnt, t.lastErr))
      = some (.idle, none, [], 0, .none) ∧
    next? (exec .rst halted) (fun t => (t.ql, t.gen, t.dlog))
      = some ([], 0, [⟨0, 0x30#8, [], .status⟩]) := by decide

/-! ## The wire -/

/-- The token reader over `raw`. -/
def reading (cfg : Config) (raw out : List Byte) : State :=
  { bare with cfg := cfg, wire := ⟨0x21#8, raw, out, none⟩ }

theorem test_escStart :
    next? (exec .escStart (reading testArc [0x10#8, 0x7E#8, 0x41#8] [])) State.wire
      = some ⟨0x21#8, [0x41#8], [0x7E#8], none⟩ := by decide
theorem test_escEsc :
    next? (exec .escEsc (reading testArc [0x10#8, 0x10#8, 0x41#8] [])) State.wire
      = some ⟨0x21#8, [0x41#8], [0x10#8], none⟩ := by decide
theorem test_escOther :
    next? (exec (.escOther 0x41#8) (reading testArc [0x10#8, 0x41#8] [])) State.wire
      = some ⟨0x21#8, [0x41#8], [0x10#8], none⟩ := by decide
theorem test_escLone :
    next? (exec .escLone (reading testArc [0x10#8] [])) State.wire
      = some ⟨0x21#8, [], [], some (.error .malformedFrame)⟩ ∧
    next? (exec .escLone (reading testLiteral [0x10#8] [])) State.wire
      = some ⟨0x21#8, [], [0x10#8], none⟩ := by decide
theorem test_byte :
    next? (exec (.byte 0x7E#8) (reading testArc [0x7E#8, 0x10#8] [0x01#8])) State.wire
      = some ⟨0x21#8, [0x10#8], [0x01#8, 0x7E#8], none⟩ := by decide

/-- V2 as a frame, and D10. -/
theorem test_frame :
    next? (exec (.frame 0x01#8 2#16 0x21#8 [0x05#8] 0x35EE#16) (reading testArc [] v2))
      (fun t => t.wire.result) = some (some (.ok 0x21#8 [0x05#8])) ∧
    next? (exec (.frame 0x01#8 2#16 0x21#8 [0x04#8] 0x35EE#16) (reading testArc [] v2))
      (fun t => t.wire.result) = some (some (.error .checksumMismatch)) := by decide

/-! ## Witnesses: each meets all the hypotheses of the statement it is named after -/

/-- A payload of the greatest length. -/
def longest : List Byte := List.replicate 255 0xAA#8

/-- A data part of the greatest length. -/
def widest : List Byte := List.replicate 1024 0x10#8

/-- A configuration whose table has CKSUM_PERM: entry `i` is `i` in its high byte. -/
def permCfg : Config :=
  { testArc with cksumTable := Vector.ofFn fun i => BitVec.ofNat 16 (i.val * 256) }

theorem permCfg_cksumPerm : permCfg.cksumPerm := by
  intro i j h
  have e : ∀ k : Fin 256, permCfg.cksumTable.get k = BitVec.ofNat 16 (k.val * 256) := by
    intro k
    simp [permCfg, Vector.get]
    rfl
  rw [e, e] at h
  have := congrArg BitVec.toNat h
  simp only [BitVec.extractLsb'_toNat, BitVec.toNat_ofNat, Nat.shiftRight_eq_div_pow] at this
  omega

/-- The states of a command in flight that meet the invariants. -/
theorem flying_inv (k : Nat) (h : k < 10) : (flying k).Inv where
  idle     := by simp [flying]
  inFlight := fun _ => ⟨cmd21, rfl, (by decide : v2 = encodeFrame testArc 0x21#8 [0x05#8]), h⟩
  success  := by simp [flying]
  failed   := by simp [flying]
  high     := by simp [flying, bare, State.reset]
  low      := by simp [flying, bare, State.reset]
  depth    := by simp [flying, bare, testArc]
  payload  := by simp [flying, cmd21, maxPayload]
  frame    := by simp [flying, v2]
  failCnt  := Nat.le_of_lt h
  lastErr  := by simp [flying, bare, State.reset]

theorem witness_DecodeUndoesEncode :
    (Instr.enq .low 0xFF#8 longest).wellFormed = true ∧
    (Instr.decode 0x7E#8 widest).wellFormed = true ∧ (Instr.escOther 0xFF#8).wellFormed = true ∧
    (Instr.frame 0x7E#8 256#16 0x10#8 longest 0xFFFF#16).wellFormed = true := by decide

theorem witness_BytesAfterARequestAreIgnored :
    (Instr.enq .low 0xFF#8 longest).wellFormed = true ∧
    (Instr.enq .low 0xFF#8 longest).format = .host := by decide

/-- The two directions of the equivalence have legal and illegal words. -/
theorem witness_HostWordIsLegalIffReservedBitsAreZero :
    legalWord 0x00FF0101#32 ∧ legalWord 0x00FF0014#32 ∧ ¬ legalWord 0x00000102#32 ∧
    ¬ legalWord 0x00000080#32 := by
  unfold legalWord opField
  decide

/-- Each clause: an illegal word, a missing count, a count just over the limit, a data part one byte
short, a complete one of the greatest length, an operation with no data part. -/
theorem witness_IllegalRequestsAreAnsweredInOrder :
    (asking [0x00#8, 0x00#8, 0x00#8, 0x00#8]).turns
      = .request (0x00#8 :: 0x00#8 :: 0x00#8 :: 0x00#8 :: []) :: [] ∧
    ¬ legalWord (wordOf 0x00#8 0x00#8 0x00#8 0x00#8) ∧
    (legalWord (wordOf 0x01#8 0x01#8 0x30#8 0x00#8) ∧
      dataLimit (wordOf 0x01#8 0x01#8 0x30#8 0x00#8) = some 255) ∧
    ([0xFF#8] : List Byte).length < 2 ∧
    255 < (0x00#8 : Byte).toNat + 256 * (0x01#8 : Byte).toNat ∧
    ((0xFF#8 : Byte).toNat + 256 * (0x00#8 : Byte).toNat ≤ 255 ∧
      (longest.take 254).length < (0xFF#8 : Byte).toNat + 256 * (0x00#8 : Byte).toNat ∧
      (0xFF#8 : Byte).toNat + 256 * (0x00#8 : Byte).toNat ≤ longest.length) ∧
    legalWord (wordOf 0x02#8 0x00#8 0x00#8 0x00#8) ∧
    dataLimit (wordOf 0x02#8 0x00#8 0x00#8 0x00#8) = none := by
  unfold legalWord dataLimit opField
  decide

theorem witness_StepRunsTheDecodedRequest :
    (asking [0x02#8, 0#8, 0#8, 0#8]).turns = .request [0x02#8, 0#8, 0#8, 0#8] :: [] ∧
    decode .host [0x02#8, 0#8, 0#8, 0#8] = .ok .clr := by decide

/-- Every engine state, with the engine's move first. -/
theorem witness_StepRunsTheEnabledEngineStep :
    ∀ st ∈ [EngineState.idle, .writing, .await, .success, .failed, .halted],
      ({ bare with st := st, turns := [.engine] } : State).turns = .engine :: [] ∧
      ({ bare with st := st, turns := [.engine] } : State).st = st := by decide

theorem witness_StepRunsTheTokenOrTheFrame :
    ({ reading testArc [0x10#8, 0x7E#8] [] with turns := [.wire] } : State).turns = .wire :: [] ∧
    (reading testArc [0x10#8, 0x7E#8] []).wire.result = none ∧
    decode .wireToken (reading testArc [0x10#8, 0x7E#8] []).wire.raw = .ok .escStart ∧
    (reading testArc [] v2).wire.raw = [] ∧
    decode .wireFrame (reading testArc [] v2).wire.out
      = .ok (.frame 0x01#8 2#16 0x21#8 [0x05#8] 0x35EE#16) := by decide

/-- A data part of the greatest length, and a payload one byte too long: CksumAnswersTheRunningChecksum,
EncodeAnswersTheFrame, StuffedFrameLength. -/
theorem witness_data_lengths :
    widest.length ≤ 1024 ∧ longest.length ≤ 255 ∧ 255 < (0x00#8 :: longest).length := by decide

theorem witness_StuffAnswersTheStuffedBytes :
    widest.length ≤ 1024 ∧ widest = 0x10#8 :: List.replicate 1023 0x10#8 := by decide

theorem witness_UnstuffAnswersTheUnstuffedBytes :
    widest.length ≤ 1024 ∧
    unstuffBytes bare.cfg.loneEsc widest = .ok (List.replicate 512 0x10#8) ∧
    unstuffBytes bare.cfg.loneEsc [0x10#8] = .error .malformedFrame ∧
    (0x41#8 : Byte) ≠ 0x7E#8 ∧ (0x41#8 : Byte) ≠ 0x10#8 := by decide

theorem witness_DecodeAnswersTheResult :
    v2.length ≤ 1024 ∧ decodeFrame bare.cfg v2 0x21#8 = .ok 0x21#8 [0x05#8] ∧
    decodeFrame bare.cfg v2 0x22#8 = .error .commandMismatch := by decide

/-- D11, D2, D3, D6, D5, D14, D9 and D18, one for each clause. -/
theorem witness_DecodeChecksInOrder :
    unstuffBytes testArc.loneEsc (v2 ++ [0x10#8]) = .error .malformedFrame ∧
    (unstuffBytes testArc.loneEsc [] = .ok [] ∧ ([] : List Byte)[0]? ≠ some 0x7E#8) ∧
    (unstuffBytes testArc.loneEsc [0x7E#8] = .ok [0x7E#8] ∧
      ([0x7E#8] : List Byte)[1]? ≠ some testArc.rtuId) ∧
    (unstuffBytes testArc.loneEsc (v2.take 4) = .ok (v2.take 4) ∧ (v2.take 4).length < 5 ∧
      (v2.take 4)[1]? = some testArc.rtuId) ∧
    (unstuffBytes testArc.loneEsc v2 = .ok v2 ∧
      v2 = 0x7E#8 :: testArc.rtuId :: 0x02#8 :: 0x00#8 :: 0x21#8 :: [0x05#8, 0xEE#8, 0x35#8] ∧
      (0x21#8 : Byte) ≠ 0x22#8 ∧
      (0x02#8 : Byte).toNat + 256 * (0x00#8 : Byte).toNat = ([0x05#8] : List Byte).length + 1 ∧
      ([0x05#8, 0xEE#8, 0x35#8] : List Byte) = [0x05#8] ++ [0xEE#8, 0x35#8] ∧
      (0x35#8 : Byte) ++ (0xEE#8 : Byte) = checksumLoop testArc.cksumTable 0#16
        (0x7E#8 :: testArc.rtuId :: 0x02#8 :: 0x00#8 :: 0x21#8 :: [0x05#8]) ∧
      (0x36#8 : Byte) ++ (0xEE#8 : Byte) ≠ checksumLoop testArc.cksumTable 0#16
        (0x7E#8 :: testArc.rtuId :: 0x02#8 :: 0x00#8 :: 0x21#8 :: [0x05#8])) ∧
    ([0x7E#8, 0x01#8, 0x00#8, 0x00#8, 0x49#8, 0xE8#8] : List Byte).length
      = (0x00#8 : Byte).toNat + 256 * (0x00#8 : Byte).toNat + 6 := by decide

theorem witness_FrameRoundTrip : longest.length ≤ 255 ∧ (0x22#8 : Byte) ≠ 0x21#8 := by decide

theorem witness_UnstuffUndoesStuff :
    (∃ b ∈ [0x10#8, 0x41#8], b ≠ (0x10#8 : Byte)) ∧
    ([0x7E#8, 0x10#8] : List Byte).head? ≠ some 0x10#8 := by decide

theorem witness_CksumPermDetectsOneByte : permCfg.cksumPerm ∧ (0x00#8 : Byte) ≠ 0x01#8 :=
  ⟨permCfg_cksumPerm, by decide⟩

/-- Each clause: indices 0 to 4, the first and the last payload byte. -/
theorem witness_ChangedByteIsDetected :
    permCfg.cksumPerm ∧
    ([(0, 0x7E#8), (1, 0x01#8), (2, 0x03#8), (3, 0x00#8), (4, 0x21#8), (5, 0x05#8), (6, 0x41#8)] :
      List (Nat × Byte)).all (fun x =>
        (plainFrame permCfg 0x21#8 [0x05#8, 0x41#8])[x.1]? == some x.2 && x.2 != 0x11#8)
      = true ∧
    (0x11#8 : Byte) ≠ 0x10#8 ∧
    (([0x01#8, 0x03#8, 0x00#8, 0x21#8, 0x05#8, 0x41#8, 0x11#8] : List Byte).all
      fun b => b != 0x7E#8 && b != 0x10#8) = true :=
  ⟨permCfg_cksumPerm, by decide⟩

theorem witness_CodecOperationsWriteNoState : ∃ d, Instr.cksum [] = .cksum d := ⟨[], rfl⟩

theorem witness_EnqPushesAtTheTail :
    longest.length ≤ 255 ∧ bare.cfg.queueDepth ≠ some bare.qh.length ∧
    bare.cfg.queueDepth ≠ some bare.ql.length ∧ 255 < (0x00#8 :: longest).length := by decide

/-- QUEUE_DEPTH 1 with one HIGH entry (Q6, Q7). -/
def full : State :=
  { bare with cfg := { testArc with queueDepth := some 1 }, qh := [cmd21],
              turns := [.request [0x02#8, 0#8, 0#8, 0#8], .retry 0] }

theorem witness_FullTierHoldsEnq :
    longest.length ≤ 255 ∧ full.cfg.queueDepth = some 1 ∧ (full.tier .high).length = 1 ∧ 0 < 1 ∧
    full.waiting = [] ∧ decode .host [0x02#8, 0#8, 0#8, 0#8] = .ok .clr ∧
    full.turns = .request [0x02#8, 0#8, 0#8, 0#8] :: .retry 0 :: [] := by decide

theorem witness_ClrEmptiesBothTiers :
    bare.cfg.genW = none ∧
    ({ bare with cfg := { testArc with genW := some 8 } } : State).cfg.genW = some 8 := by decide

theorem witness_StatAnswersTheStatus : bare.cur = none ∧ (flying 0).cur = some cmd21 := by decide

theorem witness_DeqTakesTheHighHeadFirst :
    (bare.st = .idle ∧ ({ bare with qh := [cmd21] } : State).qh = cmd21 :: []) ∧
    (bare.qh = [] ∧ ({ bare with ql := [cmd21] } : State).ql = cmd21 :: []) ∧
    bare.engineHeld ∧ halted.st ≠ .idle := ⟨by decide, by decide, ⟨rfl, rfl, rfl⟩, by decide⟩

/-- E4's four requests, and Q9's. -/
theorem witness_HighDrainsFirst :
    bare.qh = [] ∧ bare.ql = [] ∧ bare.cfg.queueDepth = none ∧ bare.st = .idle ∧
    longest.length ≤ 255 ∧
    ({ bare with turns := [.request (encode (.enq .low 0x31#8 [])), .engine,
        .request (encode (.enq .high 0x21#8 longest))] } : State).turns
      = .request (encode (.enq .low 0x31#8 [])) :: .engine ::
        .request (encode (.enq .high 0x21#8 longest)) :: [] := by decide

/-- A step that answers a next state (and emits a PCF), for the statements about every step:
TiersChangeOnlyByTheirOperations, ConfigurationNeverChanges, EventsCarryTheStampOfTheirCommand,
FrameIsASnapshot, OnlyTheEngineCallsTheTransport. -/
theorem witness_step : ∃ t, step { flying 9 with turns := [.engine], txIn := [.exc] } = .next t :=
  ⟨_, rfl⟩

theorem witness_ClearIsABarrier :
    (∃ t, exec .clr bare = .next t) ∧
    ({ bare with gen := 1 } : State).cfg.genW = none ∧ 1 ≤ ({ bare with gen := 1 } : State).gen ∧
    (∀ e ∈ [(⟨0x30#8, [], .low, 1⟩ : Entry)], 1 ≤ e.gen) ∧
    ∃ t, step { bare with gen := 1, ql := [⟨0x30#8, [], .low, 1⟩], turns := [.engine] } = .next t ∧
      1 ≤ t.gen ∧ t.cur ≠ bare.cur ∧ t.cur = some ⟨0x30#8, [], .low, 1⟩ :=
  ⟨⟨_, rfl⟩, by decide, by decide, by decide, _, rfl, by decide, by decide, by decide⟩

theorem witness_OnlyClrAndRstWriteGen :
    (∃ t, step (asking [0x02#8, 0#8, 0#8, 0#8]) = .next t ∧ t.gen ≠ bare.gen) ∧
    (∃ t, step { halted with turns := [.request [0x04#8, 0#8, 0#8, 0#8]] } = .next t ∧
      t.gen ≠ halted.gen) := ⟨⟨_, rfl, by decide⟩, _, rfl, by decide⟩

theorem witness_WriteAwaitsTheResponse :
    (flying 9).st = .writing ∧ (flying 9).cur = some cmd21 ∧
    ({ flying 9 with txIn := [.ok] } : State).txAnswer = .ok := by decide

/-- Counters just below the cap and at it, DIAG_IN listed and free. -/
theorem witness_WriteExceptionIsAccounted :
    ({ flying 8 with txIn := [.exc] } : State).txAnswer = .exc ∧ (flying 8).failCnt + 1 < 10 ∧
    (flying 9).failCnt + 1 = 10 ∧ (flying 9).diagIn = [] ∧
    ({ flying 9 with diagIn := [[0xD1#8]] } : State).diagIn = [0xD1#8] :: [] := by decide

theorem witness_RecvDispatchesADecodedResponse :
    (waitingFor 9 (.bytes rok)).st = .await ∧ (waitingFor 9 (.bytes rok)).cur = some cmd21 ∧
    (waitingFor 9 (.bytes rok)).rxAnswer = .bytes rok ∧ rok ≠ [] ∧
    decodeFrame testArc rok cmd21.cmd = .ok 0x21#8 [0x2D#8, 0x00#8] := by decide

theorem witness_RecvFailureIsAccounted :
    ((waitingFor 8 (.bytes [])).rxAnswer = .bytes [] ∧ (waitingFor 8 (.bytes [])).failCnt + 1 < 10) ∧
    ((waitingFor 9 .exc).rxAnswer = .exc ∧ (waitingFor 9 .exc).failCnt + 1 = 10) ∧
    (waitingFor 0 (.bytes [0x7F#8])).rxAnswer = .bytes [0x7F#8] ∧
    decodeFrame testArc [0x7F#8] cmd21.cmd = .error .headerMismatch := by decide

theorem witness_LostHandleHaltsUntilRst :
    ((flying 3).cur = some cmd21 ∧ (flying 3).st = .writing ∧
      ({ flying 3 with txIn := [.lost] } : State).txAnswer = .lost) ∧
    ((waitingFor 3 .lost).st = .await ∧ (waitingFor 3 .lost).rxAnswer = .lost) ∧
    halted.st = .halted ∧
    (∃ t, step { halted with turns := [.engine] } = .next t) ∧
    (∃ t, step { halted with turns := [.request [0x04#8, 0#8, 0#8, 0#8]] } = .next t) :=
  ⟨by decide, by decide, rfl, ⟨_, rfl⟩, _, rfl⟩

/-- A listed answer of more than RX_MAX bytes. -/
theorem witness_ReadsAreBoundedByRxMax :
    ({ waitingFor 0 (.bytes v2) with cfg := { testArc with rxMax := 7 } } : State).rxAnswer
      = .bytes (v2.take 7) := by decide

theorem witness_FailureKindsCountAlike :
    (flying 8).failCnt + 1 < 10 ∧ 10 ≤ (flying 9).failCnt + 1 := by decide

theorem witness_CompleteAndResume :
    ({ flying 0 with st := .success } : State).st = .success ∧
    ({ flying 10 with st := .failed } : State).st = .failed := by decide

theorem witness_StepsNotEnabledChangeNothing :
    bare.st ≠ .writing ∧ bare.st ≠ .await ∧ bare.st ≠ .success ∧ bare.st ≠ .failed := by decide

/-- Ten failed attempts of every kind: a write exception, a read exception, timeouts, a frame error. -/
def tenAttempts : List Attempt :=
  [none, some .exc, some (.bytes [0x7F#8])] ++ List.replicate 7 (some (.bytes []))

/-- Moves of `n` attempts: before each move of the engine a CLR, a held ENQ, an ENQ and a token. -/
def busy (n : Nat) : List Turn :=
  (List.replicate n [.request (encode .clr), .retry 0, .request (encode (.enq .low 0x31#8 [])), .wire,
    .engine]).flatten

/-- The engine about to make attempts in the course of the moves `ts`, with nothing after them. -/
def attempting (as : List Attempt) (ts : List Turn) : State :=
  { flying 0 with txIn := as.map Attempt.tx, rxIn := as.filterMap id, turns := ts }

theorem busy_interleaved (n : Nat) : Interleaved n (busy n) where
  engine := by
    induction n with
    | zero => rfl
    | succ n ih =>
      simp only [busy, List.replicate_succ, List.flatten_cons, List.count_append] at ih ⊢
      rw [ih, Nat.add_comm]
      rfl
  noRst := by
    intro t h
    simp only [busy, List.mem_flatten, List.mem_replicate] at h
    obtain ⟨l, ⟨-, rfl⟩, h⟩ := h
    revert t
    decide

theorem witness_RetryCap :
    Attempting (attempting tenAttempts (busy 19)) cmd21 tenAttempts [] [] (busy 19) [] ∧
    (attempting tenAttempts (busy 19)).failCnt = 0 ∧ tenAttempts.length = 10 ∧
    (∀ a ∈ tenAttempts, (Attempt.error testArc cmd21.cmd a).isSome = true) ∧
    tenAttempts.getLast?.bind (Attempt.error testArc cmd21.cmd) = some .readTimeout :=
  ⟨⟨rfl, rfl, by decide, by decide, by simp [attempting], busy_interleaved 19⟩, rfl, by decide,
    by decide, by decide⟩

/-- Success at the first attempt and at the last one. -/
theorem witness_SuccessAfterRetries :
    Attempting (attempting ([] ++ [some (.bytes rok)]) (busy 2)) cmd21 ([] ++ [some (.bytes rok)])
      [] [] (busy 2) [] ∧
    Attempting (attempting (tenAttempts.take 9 ++ [some (.bytes rok)]) (busy 19)) cmd21
      (tenAttempts.take 9 ++ [some (.bytes rok)]) [] [] (busy 19) [] ∧
    (flying 0).failCnt = 0 ∧ (flying 0).lastErr = .none ∧ (tenAttempts.take 9).length < 10 ∧
    (∀ a ∈ tenAttempts.take 9, (Attempt.error testArc cmd21.cmd a).isSome = true) ∧
    rok.take testArc.rxMax ≠ [] ∧
    decodeFrame testArc (rok.take testArc.rxMax) cmd21.cmd = .ok 0x21#8 [0x2D#8, 0x00#8] :=
  ⟨⟨rfl, rfl, by decide, by decide, by simp [attempting], busy_interleaved 2⟩,
    ⟨rfl, rfl, by decide, by decide, by simp [attempting], busy_interleaved 19⟩, rfl, rfl,
    by decide, by decide, by decide, by decide⟩

/-- The moves of `EveryCommandEnds`, on top of a command in flight. -/
theorem witness_EveryCommandEnds :
    ({ flying 0 with turns := busy 20 } : State).Inv ∧ (flying 0).st = .writing ∧
    Interleaved 20 (busy 20) :=
  ⟨{ flying_inv 0 (by decide) with }, rfl, busy_interleaved 20⟩

theorem witness_StepKeepsTheInvariants :
    ({ flying 9 with turns := [.engine], txIn := [.exc] } : State).Inv ∧
    ∃ t, step { flying 9 with turns := [.engine], txIn := [.exc] } = .next t :=
  ⟨{ flying_inv 9 (by decide) with }, _, rfl⟩

theorem witness_StepNeverStops :
    (flying 0).Inv ∧
    ∃ t, step { flying 0 with turns := [.engine], txIn := [.lost] } = .next t ∧
      (flying 0).st ≠ .halted ∧ t.st = .halted :=
  ⟨flying_inv 0 (by decide), _, rfl, by decide, by decide⟩

/-- Each clause of the table of R110 that has a premise on the answer. -/
theorem witness_TransitionsOfTheEngineState :
    (∃ t, step { waitingFor 9 (.bytes rok) with turns := [.engine] } = .next t ∧ t.st = .success) ∧
    (∃ t, step { waitingFor 8 (.bytes []) with turns := [.engine] } = .next t ∧ t.st = .writing) ∧
    (∃ t, step { waitingFor 9 .exc with turns := [.engine] } = .next t ∧ t.st = .failed) ∧
    (∃ t, step { waitingFor 0 .lost with turns := [.engine] } = .next t ∧ t.st = .halted) ∧
    (∃ t, step { flying 0 with turns := [.engine], txIn := [.ok] } = .next t ∧ t.st = .await) ∧
    (∃ t, step { bare with turns := [.engine], ql := [cmd21] } = .next t ∧ t.st = .writing) ∧
    (∃ t, step { halted with turns := [.request [0x04#8, 0#8, 0#8, 0#8]] } = .next t ∧
      t.st = .idle) :=
  ⟨⟨_, rfl, by decide⟩, ⟨_, rfl, by decide⟩, ⟨_, rfl, by decide⟩, ⟨_, rfl, by decide⟩,
    ⟨_, rfl, by decide⟩, ⟨_, rfl, by decide⟩, _, rfl, by decide⟩

/-- A step that emits a PCF with a sample of DIAG_IN. -/
theorem witness_DiagInIsOpaque :
    ∃ t, step { waitingFor 9 .exc with turns := [.engine], diagIn := [[0xD1#8]] } = .next t ∧
      t.elog.length = 1 := ⟨_, rfl, by decide⟩

theorem witness_TokensEmitAndConsume :
    (reading testArc [0x10#8] []).cfg.loneEsc = .malformed ∧
    (reading testLiteral [0x10#8] []).cfg.loneEsc = .literal := by decide

/-- Each clause of `FrameIsChecked`, on the reader that expects 21. -/
theorem witness_FrameIsChecked :
    (0x02#8 : Byte) ≠ (reading testArc [] v2).cfg.rtuId ∧
    (0x01#8 : Byte) = (reading testArc [] v2).cfg.rtuId ∧
    (0x22#8 : Byte) ≠ (reading testArc [] v2).wire.exp ∧
    (0x21#8 : Byte) = (reading testArc [] v2).wire.exp ∧
    (0#16 : U16).toNat ≠ ([0x05#8] : List Byte).length + 1 ∧
    (2#16 : U16).toNat = ([0x05#8] : List Byte).length + 1 ∧
    (0x35EE#16 : U16) = checksumLoop testArc.cksumTable 0#16
      ([0x7E#8, 0x01#8, (2#16 : U16).extractLsb' 0 8, (2#16 : U16).extractLsb' 8 8, 0x21#8]
        ++ [0x05#8]) ∧
    (0x36EE#16 : U16) ≠ checksumLoop testArc.cksumTable 0#16
      ([0x7E#8, 0x01#8, (2#16 : U16).extractLsb' 0 8, (2#16 : U16).extractLsb' 8 8, 0x21#8]
        ++ [0x05#8]) := by decide

theorem witness_TokenReaderIsDecode :
    ({ bare with turns := .load 0x21#8 v2 :: List.replicate 9 .wire } : State).turns
      = .load 0x21#8 v2 :: (List.replicate (v2.length + 1) .wire ++ []) := by decide

theorem witness_ShortRequestsAreIllegal :
    (asking [0x02#8, 0#8, 0#8]).turns = .request [0x02#8, 0#8, 0#8] :: [] ∧
    ([0x02#8, 0#8, 0#8] : List Byte).length < 4 := by decide

/-- (a): the engine's move and the token reader's. (b): an ENQ and a CLR while halted. The third clause:
held, halted, and neither. -/
theorem witness_QuiescentRunsStandStill :
    ({ bare with turns := [.engine, .wire] } : State).quiescentIdle 2 ∧
    ({ halted with turns := [.request (encode (.enq .low 0x31#8 [])), .engine,
        .request (encode .clr)] } : State).quiescentHalted 3 ∧
    bare.engineHeld ∧ halted.engineHalted ∧ ¬ (flying 0).engineHeld ∧ ¬ (flying 0).engineHalted :=
  ⟨⟨⟨rfl, rfl, rfl⟩, rfl, by decide⟩, ⟨rfl, by decide⟩, ⟨rfl, rfl, rfl⟩, rfl,
    fun h => absurd h.1 (by decide), fun h => absurd (show (flying 0).st = .halted from h) (by decide)⟩

end Sys2Proof.Tests
end

/-! # What a step can do

One inversion lemma for the whole machine (`step_effect`), from which the statements about every step
are derived: the invariants of 10_state.md R33, and what can happen to the configuration, the
generation, the tiers and the streams of events. -/

namespace Sys2Proof.Machine

/-! ## The moves, effect by effect -/

/-- What the move `τ` can make of a state, its operands drawn from that state: the twelve cases of a
step of 41_scheduler.md, 42_retry_engine.md, 40_codec.md and the token reader, guards included.
`step_effect` ties it to `step`. -/
inductive Effect (τ : Turn) (s : State) : State → Prop
  /-- A move with nothing to do: a held or halted engine, no such held producer, a finished reader. -/
  | stay : Effect τ s s
  /-- The token reader's loading, tokens and checks (log 6). -/
  | wire (w : Wire) : τ ≠ .engine → Effect τ s { s with wire := w }
  /-- A request answered at once: rejected, STAT, or an operation of the codec (R80, R99, R104). -/
  | answer (r : List Byte) : τ ≠ .engine → Effect τ s (s.respond r)
  /-- ENQ into a full tier (R107). -/
  | park (h : HeldEnq) : τ ≠ .engine → s.tierFull h.prio = true → Effect τ s (s.park h)
  /-- ENQ into a tier with room (R101). -/
  | push (e : Entry) : τ ≠ .engine → e.payload.length ≤ maxPayload → e.gen = s.gen →
      s.tierFull e.prio = false → Effect τ s ((s.push e).respond [respOk])
  /-- CLR (R102). -/
  | clear (bytes : List Byte) : τ = .request bytes → decode .host bytes = .ok .clr →
      Effect τ s (s.clearQueues.respond [respOk])
  /-- RST (R119). -/
  | reset (bytes : List Byte) : τ = .request bytes → decode .host bytes = .ok .rst →
      Effect τ s (s.resetBlock.respond [respOk])
  /-- DEQ with a command queued (R103). -/
  | launch (e : Entry) (qh ql : List Entry) : τ = .engine → s.st = .idle →
      s.pop? = some (e, qh, ql) → Effect τ s (s.launch e qh ql)
  /-- WRITE (R112). -/
  | write (e : Entry) : τ = .engine → s.st = .writing → s.cur = some e →
      Effect τ s (afterWrite e s.txAnswer s.didWrite)
  /-- RECV (R113). -/
  | recv (e : Entry) : τ = .engine → s.st = .await → s.cur = some e →
      Effect τ s (afterRead e s.rxAnswer s.didRead)
  /-- COMPLETE (R116). -/
  | complete : τ = .engine → s.st = .success → Effect τ s s.release
  /-- RESUME (R117). -/
  | resume : τ = .engine → s.st = .failed → Effect τ s s.resumeDrain

/-- ENQ, asked or tried again, answers, holds its producer or pushes (41_scheduler.md R101, R107). -/
theorem execEnq_effect {τ : Turn} (hτ : τ ≠ .engine) (p : Prio) (cmd : Byte) (payload : List Byte)
    {s t : State} (h : execEnq p cmd payload s = .next t) : Effect τ s t := by
  simp only [execEnq] at h
  cases h
  split
  · exact .answer _ hτ
  next hlen =>
    split
    next hfull => exact .park _ hτ hfull
    next hroom =>
      exact .push ⟨cmd, payload, p, s.gen⟩ hτ (Nat.le_of_not_lt hlen) rfl
        (Bool.eq_false_of_not_eq_true hroom)

/-- A decoded request has the effect of its host operation. -/
theorem exec_request_effect {bytes : List Byte} {i : Instr} (hd : decode .host bytes = .ok i)
    {s t : State} (h : exec i s = .next t) : Effect (.request bytes) s t := by
  have hτ : Turn.request bytes ≠ .engine := nofun
  have hf := decodeHost_format hd
  cases i with
  | enq p cmd payload => exact execEnq_effect hτ p cmd payload h
  | clr => cases h; exact .clear bytes rfl hd
  | rst => cases h; exact .reset bytes rfl hd
  | stat | cksum | stuff | unstuff | encode | decode => cases h; exact .answer _ hτ
  | _ => cases hf

/-- A token or a frame has its effect on the token reader. -/
theorem exec_wire_effect {i : Instr} (hf : i.format = .wireToken ∨ i.format = .wireFrame)
    {s t : State} (h : exec i s = .next t) : Effect .wire s t := by
  obtain ⟨w, hw⟩ := exec_wire i s hf
  cases hw.symm.trans h
  exact .wire w nofun

/-- What a fetched move answers: the instruction's outcome, or the state reached without one. -/
def Fetched.outcome : Fetched → Host.Outcome State Fault Refusal
  | .run i u => exec i u
  | .settle u => .next u

/-- A step answers what its fetched move answers. -/
theorem step_eq_outcome (s : State) : step s = (fetch s).outcome := by
  unfold step Fetched.outcome
  cases fetch s <;> rfl

/-- The token reader's move touches the token reader only. -/
theorem fetchWire_effect {s t : State} (h : (fetchWire s).outcome = .next t) :
    Effect .wire s t := by
  unfold fetchWire at h
  split at h
  · cases h; exact .stay
  · split at h
    next hd => exact exec_wire_effect (.inl (decodeToken_format hd)) h
    next =>
      split at h
      next hd => exact exec_wire_effect (.inr (decodeFrameBytes_format hd)) h
      next => cases h; exact .wire _ nofun

/-- The engine's move has the effect of the step its state enables (42_retry_engine.md R110). -/
theorem fetchEngine_effect {s t : State} (h : (fetchEngine s).outcome = .next t) :
    Effect .engine s t := by
  rw [fetchEngine_eq] at h
  cases hst : s.st <;> simp only [hst, Fetched.outcome, exec] at h
  case idle =>
    simp only [execDeq, hst, if_true] at h
    split at h
    next e qh ql hpop => cases h; exact .launch e qh ql rfl hst hpop
    next => cases h; exact .stay
  case writing =>
    simp only [execWrite, hst, if_true] at h
    split at h
    next => cases h
    next e hcur => cases h; exact .write e rfl hst hcur
  case await =>
    simp only [execRecv, hst, if_true] at h
    split at h
    next => cases h
    next e hcur => cases h; exact .recv e rfl hst hcur
  case success =>
    simp only [execComplete, hst, if_true] at h
    cases h; exact .complete rfl hst
  case failed =>
    simp only [execResume, hst, if_true] at h
    cases h; exact .resume rfl hst
  case halted => cases h; exact .stay

/-- Every step that answers a next state uses up its move, takes the producer that tries again, if
any, out of the held ones, and has one of the effects. -/
theorem step_effect {s t : State} (h : step s = .next t) :
    ∃ waiting, Effect s.nextTurn { s.didTurn with waiting := waiting } t := by
  rw [step_eq_outcome, fetch] at h
  cases hτ : s.nextTurn <;> simp only [hτ, fetchTurn] at h
  case request bytes =>
    refine ⟨s.didTurn.waiting, ?_⟩
    unfold fetchRequest at h
    split at h
    next hd => exact exec_request_effect hd h
    next => cases h; exact .answer _ nofun
  case retry k =>
    unfold fetchRetry at h
    split at h
    next held _ => exact ⟨_, execEnq_effect (τ := .retry k) nofun held.prio held.cmd held.payload h⟩
    next => cases h; exact ⟨s.didTurn.waiting, .stay⟩
  case engine => exact ⟨s.didTurn.waiting, fetchEngine_effect h⟩
  case load => cases h; exact ⟨s.didTurn.waiting, .wire _ nofun⟩
  case wire => exact ⟨s.didTurn.waiting, fetchWire_effect h⟩

/-! ## What the engine's step leaves unchanged -/

section
variable (e : Entry) (s : State)

@[simp] theorem afterWrite_cfg (a : TxAnswer) : (afterWrite e a s).cfg = s.cfg := by
  obtain ⟨-, h⟩ | ⟨-, h⟩ | ⟨-, h⟩ := afterWrite_cases e a s <;> simp [h]
@[simp] theorem afterWrite_qh (a : TxAnswer) : (afterWrite e a s).qh = s.qh := by
  obtain ⟨-, h⟩ | ⟨-, h⟩ | ⟨-, h⟩ := afterWrite_cases e a s <;> simp [h]
@[simp] theorem afterWrite_ql (a : TxAnswer) : (afterWrite e a s).ql = s.ql := by
  obtain ⟨-, h⟩ | ⟨-, h⟩ | ⟨-, h⟩ := afterWrite_cases e a s <;> simp [h]
@[simp] theorem afterWrite_gen (a : TxAnswer) : (afterWrite e a s).gen = s.gen := by
  obtain ⟨-, h⟩ | ⟨-, h⟩ | ⟨-, h⟩ := afterWrite_cases e a s <;> simp [h]

@[simp] theorem afterRead_cfg (a : RxAnswer) : (afterRead e a s).cfg = s.cfg := by
  obtain ⟨-, h⟩ | ⟨_, -, -, h⟩ | ⟨_, _, _, -, -, -, h⟩ := afterRead_cases e a s <;> simp [h]
@[simp] theorem afterRead_qh (a : RxAnswer) : (afterRead e a s).qh = s.qh := by
  obtain ⟨-, h⟩ | ⟨_, -, -, h⟩ | ⟨_, _, _, -, -, -, h⟩ := afterRead_cases e a s <;> simp [h]
@[simp] theorem afterRead_ql (a : RxAnswer) : (afterRead e a s).ql = s.ql := by
  obtain ⟨-, h⟩ | ⟨_, -, -, h⟩ | ⟨_, _, _, -, -, -, h⟩ := afterRead_cases e a s <;> simp [h]
@[simp] theorem afterRead_gen (a : RxAnswer) : (afterRead e a s).gen = s.gen := by
  obtain ⟨-, h⟩ | ⟨_, -, -, h⟩ | ⟨_, _, _, -, -, -, h⟩ := afterRead_cases e a s <;> simp [h]

end

/-! ## The invariants of 10_state.md R33, operation by operation -/

/-- Stuffing at most doubles a sequence (30_encoding.md R67). -/
theorem flatMap_stuffByte_length_le (x : List Byte) :
    (x.flatMap stuffByte).length ≤ 2 * x.length := by
  induction x with
  | nil => simp
  | cons b x ih =>
    have hb : (stuffByte b).length ≤ 2 := by unfold stuffByte; split <;> simp
    simp only [List.flatMap_cons, List.length_append, List.length_cons]
    omega

/-- A stuffed frame has at most `2 * n + 13` bytes: START is never escaped (30_encoding.md R69). -/
theorem encodeFrame_length_le (cfg : Config) (cmd : Byte) (payload : List Byte) :
    (encodeFrame cfg cmd payload).length ≤ 2 * payload.length + 13 := by
  have hlen := plainFrame_length cfg cmd payload
  unfold encodeFrame
  cases hf : plainFrame cfg cmd payload with
  | nil => simp
  | cons b rest =>
    have := flatMap_stuffByte_length_le rest
    rw [hf] at hlen
    simp only [List.length_cons, stuffBytes_cons] at hlen ⊢
    omega

namespace State.Inv

variable {s : State}

/-- The schedule is outside R33. -/
theorem didTurn (h : s.Inv) : s.didTurn.Inv := by
  unfold State.didTurn
  split <;> exact { h with }

/-- R119: RST leads to the reset values from any state. -/
theorem resetBlock (s : State) : s.resetBlock.Inv where
  idle _ := ⟨rfl, rfl, rfl⟩
  inFlight := nofun
  success := nofun
  failed := nofun
  high := nofun
  low := nofun
  depth d _ := ⟨Nat.zero_le d, Nat.zero_le d⟩
  payload := nofun
  frame := by simp
  failCnt := by simp
  lastErr := nofun

theorem clearQueues (h : s.Inv) : s.clearQueues.Inv :=
  { h with
    high := nofun
    low := nofun
    depth := fun d _ => ⟨Nat.zero_le d, Nat.zero_le d⟩ }

/-- A tier within QUEUE_DEPTH that is not full has room for one entry more (41_scheduler.md R107). -/
theorem tier_lt (h : s.Inv) {p : Prio} (hroom : s.tierFull p = false) {d : Nat}
    (hd : s.cfg.queueDepth = some d) : (s.tier p).length < d := by
  obtain ⟨hhigh, hlow⟩ := h.depth d hd
  have hne : (s.tier p).length ≠ d := by simpa [State.tierFull, hd] using hroom
  cases p <;> simp only [State.tier] at hne ⊢ <;> omega

theorem push (h : s.Inv) (e : Entry) (hlen : e.payload.length ≤ maxPayload) (hgen : e.gen = s.gen)
    (hroom : s.tierFull e.prio = false) : (s.push e).Inv := by
  have hqueued : e.Queued e.prio s.gen := ⟨rfl, hlen, hgen.le⟩
  have hlt := fun d => h.tier_lt hroom (d := d)
  unfold State.push
  split
  next hp =>
    rw [hp] at hqueued hlt
    exact { h with
      high := List.forall_mem_append.2 ⟨h.high, by simpa using hqueued⟩
      depth := fun d hd => ⟨by simpa [State.tier] using hlt d hd, (h.depth d hd).2⟩ }
  next hp =>
    rw [hp] at hqueued hlt
    exact { h with
      low := List.forall_mem_append.2 ⟨h.low, by simpa using hqueued⟩
      depth := fun d hd => ⟨(h.depth d hd).1, by simpa [State.tier] using hlt d hd⟩ }

/-- R103: the tiers only get shorter, and the frame is that of the entry taken. -/
theorem launch (h : s.Inv) (hst : s.st = .idle) {e : Entry} {qh ql : List Entry}
    (hh : qh ⊆ s.qh ∧ qh.length ≤ s.qh.length) (hl : ql ⊆ s.ql ∧ ql.length ≤ s.ql.length)
    (hlen : e.payload.length ≤ maxPayload) : (s.launch e qh ql).Inv := by
  obtain ⟨-, -, hcnt⟩ := h.idle hst
  have hframe := encodeFrame_length_le s.cfg e.cmd e.payload
  exact { h with
    idle := nofun
    inFlight := fun _ => ⟨e, rfl, rfl, by simp [hcnt, maxRetry]⟩
    success := nofun
    failed := nofun
    high := fun x hx => h.high x (hh.1 hx)
    low := fun x hx => h.low x (hl.1 hx)
    depth := fun d hd => ⟨hh.2.trans (h.depth d hd).1, hl.2.trans (h.depth d hd).2⟩
    payload := by rintro x ⟨⟩; exact hlen
    frame := by simp only [maxPayload] at hlen; simp only [State.launch_frame]; omega
    lastErr := nofun }

theorem awaitResponse (h : s.Inv) (hst : s.st = .writing) : s.awaitResponse.Inv :=
  { h with
    idle := nofun
    inFlight := fun _ => h.inFlight (.inl hst)
    success := nofun
    failed := nofun }

/-- R114: below the cap the attempt is made again; at the cap the counter is exactly MAX_RETRY. -/
theorem failAttempt (h : s.Inv) (hst : s.st = .writing ∨ s.st = .await) (e : Entry) {err : ErrCode}
    (herr : err ≠ .persistentCommFailure) : (s.failAttempt e err).Inv := by
  obtain ⟨c, hcur, hframe, hcnt⟩ := h.inFlight hst
  obtain ⟨hlt, heq⟩ | ⟨hge, heq⟩ := s.failAttempt_cases e err <;> rw [heq]
  · exact { h with
      idle := nofun
      inFlight := fun _ => ⟨c, hcur, hframe, hlt⟩
      success := nofun
      failed := nofun
      failCnt := hlt.le
      lastErr := herr }
  · exact { h with
      idle := nofun
      inFlight := by simp
      success := nofun
      failed := fun _ => ⟨by simp [hcur], Nat.le_antisymm hcnt hge⟩
      failCnt := hcnt
      lastErr := herr }

theorem succeed (h : s.Inv) (hst : s.st = .await) (e : Entry) (cmd : Byte) (payload : List Byte) :
    (s.succeed e cmd payload).Inv := by
  obtain ⟨c, hcur, -, -⟩ := h.inFlight (.inr hst)
  exact { h with
    idle := nofun
    inFlight := by simp
    success := fun _ => ⟨by simp [hcur], rfl⟩
    failed := nofun
    failCnt := Nat.zero_le _ }

theorem halt (h : s.Inv) : s.halt.Inv :=
  { h with
    idle := nofun
    inFlight := by simp
    success := nofun
    failed := nofun }

/-- R116, R117: the release leads to an IDLE that R33(i) allows where the counter is 0. -/
theorem release_failCnt (h : s.Inv) {n : Nat} (hn : n = 0) :
    State.Inv { s.release with failCnt := n } :=
  { h with
    idle := fun _ => ⟨rfl, rfl, hn⟩
    inFlight := by simp
    success := nofun
    failed := nofun
    payload := nofun
    frame := by simp
    failCnt := by simp [hn] }

/-- The entry DEQ takes was queued, and the tiers it leaves hold nothing new. -/
theorem launch_pop (h : s.Inv) (hst : s.st = .idle) {e : Entry} {qh ql : List Entry}
    (hpop : s.pop? = some (e, qh, ql)) : (s.launch e qh ql).Inv := by
  obtain ⟨e', rest, hq, hp⟩ | ⟨e', rest, hq, hl, hp⟩ | ⟨-, -, hp⟩ := s.pop?_cases <;>
    cases hp.symm.trans hpop
  · exact h.launch hst (by simp [hq]) (by simp) (h.high e (by simp [hq])).payload
  · exact h.launch hst (by simp) (by simp [hl]) (h.low e (by simp [hl])).payload

theorem afterWrite (h : s.Inv) (hst : s.st = .writing) (e : Entry) (a : TxAnswer) :
    (afterWrite e a s).Inv := by
  obtain ⟨-, heq⟩ | ⟨-, heq⟩ | ⟨-, heq⟩ := afterWrite_cases e a s <;> rw [heq]
  · exact h.awaitResponse hst
  · exact h.failAttempt (.inl hst) e nofun
  · exact h.halt

theorem afterRead (h : s.Inv) (hst : s.st = .await) (e : Entry) (a : RxAnswer) :
    (afterRead e a s).Inv := by
  obtain ⟨-, heq⟩ | ⟨err, -, herr, heq⟩ | ⟨b, cmd, payload, -, -, -, heq⟩ :=
    afterRead_cases e a s <;> rw [heq]
  · exact h.halt
  · exact h.failAttempt (.inr hst) e herr
  · exact h.succeed hst e cmd payload

end State.Inv

/-- Every effect keeps the invariants; those that touch neither S.* nor the configuration do so by
`{ hi with }`. -/
theorem Effect.inv {τ : Turn} {s t : State} (h : Effect τ s t) (hi : s.Inv) : t.Inv := by
  cases h with
  | stay => exact hi
  | wire | answer | park => exact { hi with }
  | push e _ hlen hgen hroom => exact { hi.push e hlen hgen hroom with }
  | clear => exact { hi.clearQueues with }
  | reset => exact { State.Inv.resetBlock s with }
  | launch e qh ql _ hst hpop => exact hi.launch_pop hst hpop
  | write e _ hst => exact State.Inv.afterWrite (s := s.didWrite) { hi with } hst e _
  | recv e _ hst => exact State.Inv.afterRead (s := s.didRead) { hi with } hst e _
  | complete _ hst => exact hi.release_failCnt (hi.success hst).2
  | resume => exact hi.release_failCnt rfl

/-- The invariants of 10_state.md R33 are kept by every step. -/
theorem step_inv {s t : State} (hi : s.Inv) (h : step s = .next t) : t.Inv := by
  obtain ⟨waiting, he⟩ := step_effect h
  exact he.inv { hi.didTurn with }

/-- Settles O46: each effect of a step keeps the invariants, and RST leads to the reset values. -/
theorem stepKeepsTheInvariants : Obligations.StepKeepsTheInvariants := by
  unfold Obligations.StepKeepsTheInvariants
  exact ⟨fun s t hi h => step_inv hi h,
    fun s => ⟨_, rfl, { State.Inv.resetBlock s with }⟩⟩

/-- Settles O45: the reset state holds the values RST leads to. -/
theorem resetMeetsTheInvariants : Obligations.ResetMeetsTheInvariants := by
  unfold Obligations.ResetMeetsTheInvariants
  exact { State.Inv.resetBlock State.reset with }

/-! ## The configuration -/

theorem Effect.cfg {τ : Turn} {s t : State} (h : Effect τ s t) : t.cfg = s.cfg := by
  cases h <;> simp

/-- Settles O49: no effect writes the configuration. -/
theorem configurationNeverChanges : Obligations.ConfigurationNeverChanges := by
  unfold Obligations.ConfigurationNeverChanges
  intro s t h
  obtain ⟨waiting, he⟩ := step_effect h
  simpa using he.cfg

/-! ## The generation -/

/-- S.GEN changes by a request for CLR or RST only (10_state.md R28). -/
theorem Effect.gen {τ : Turn} {s t : State} (h : Effect τ s t) :
    t.gen = s.gen ∨
    ∃ bytes, τ = .request bytes ∧
      ((decode .host bytes = .ok .clr ∧ t.gen = nextGen s.cfg s.gen) ∨
       (decode .host bytes = .ok .rst ∧ t.gen = 0)) := by
  cases h with
  | clear bytes hτ hd => exact .inr ⟨bytes, hτ, .inl ⟨hd, rfl⟩⟩
  | reset bytes hτ hd => exact .inr ⟨bytes, hτ, .inr ⟨hd, rfl⟩⟩
  | _ => exact .inl (by simp)

theorem nextGen_infinite {cfg : Config} (h : cfg.genW = none) (gen : Nat) :
    nextGen cfg gen = gen + 1 := by simp [nextGen, h]

theorem nextGen_finite {cfg : Config} {w : Nat} (h : cfg.genW = some w) (gen : Nat) :
    nextGen cfg gen = (gen + 1) % 2 ^ w := by simp [nextGen, h]

/-- Settles O30: of the effects only those of CLR and RST write S.GEN. -/
theorem onlyClrAndRstWriteGen : Obligations.OnlyClrAndRstWriteGen := by
  unfold Obligations.OnlyClrAndRstWriteGen
  intro s t h hne
  obtain ⟨waiting, he⟩ := step_effect h
  have hcases := he.gen
  simp only [State.didTurn_gen, State.didTurn_cfg] at hcases
  obtain hgen | ⟨bytes, hτ, ⟨hd, hgen⟩ | ⟨hd, hgen⟩⟩ := hcases
  · exact absurd hgen hne
  · exact ⟨bytes, hτ, .inl ⟨hd, fun hw => hgen.trans (nextGen_infinite hw _),
      fun w hw => hgen.trans (nextGen_finite hw _)⟩⟩
  · exact ⟨bytes, hτ, .inr ⟨hd, hgen⟩⟩

/-! ## The tiers -/

/-- An effect leaves the tiers as they are, pushes, pops into S.CUR, or empties both
(10_state.md R26, 20_memory.md R55). -/
theorem Effect.tiers {τ : Turn} {s t : State} (h : Effect τ s t) :
    (t.qh = s.qh ∧ t.ql = s.ql) ∨
    (∃ e : Entry, e.prio = .high ∧ e.gen = s.gen ∧ t.qh = s.qh ++ [e] ∧ t.ql = s.ql) ∨
    (∃ e : Entry, e.prio = .low ∧ e.gen = s.gen ∧ t.qh = s.qh ∧ t.ql = s.ql ++ [e]) ∨
    (∃ e, s.st = .idle ∧ s.qh = e :: t.qh ∧ t.ql = s.ql ∧ t.cur = some e) ∨
    (∃ e, s.st = .idle ∧ s.qh = [] ∧ t.qh = [] ∧ s.ql = e :: t.ql ∧ t.cur = some e) ∨
    (t.qh = [] ∧ t.ql = []) := by
  cases h with
  | push e _ _ hgen =>
    have htier := s.tier_push e
    have hh := htier .high
    have hl := htier .low
    cases hp : e.prio <;>
      simp only [hp, State.tier, reduceCtorEq, if_true, if_false] at hh hl
    · exact .inr (.inl ⟨e, hp, hgen, hh, hl⟩)
    · exact .inr (.inr (.inl ⟨e, hp, hgen, hh, hl⟩))
  | launch e qh ql _ hst hpop =>
    obtain ⟨e', rest, hq, hp⟩ | ⟨e', rest, hq, hl, hp⟩ | ⟨-, -, hp⟩ := s.pop?_cases <;>
      cases hp.symm.trans hpop
    · exact .inr (.inr (.inr (.inl ⟨e, hst, hq, rfl, rfl⟩)))
    · exact .inr (.inr (.inr (.inr (.inl ⟨e, hst, hq, rfl, hl, rfl⟩))))
  | clear | reset => exact .inr (.inr (.inr (.inr (.inr ⟨rfl, rfl⟩))))
  | _ => exact .inl (by simp)

/-- Settles O28: the effects on the tiers are a push, a pop into S.CUR and emptying both. -/
theorem tiersChangeOnlyByTheirOperations : Obligations.TiersChangeOnlyByTheirOperations := by
  unfold Obligations.TiersChangeOnlyByTheirOperations
  intro s t h
  obtain ⟨waiting, he⟩ := step_effect h
  simpa using he.tiers

/-! ## The streams of events -/

/-- A failed attempt of the command in flight emits nothing, or its PCF on the way into FAILED
(42_retry_engine.md R114, R115). -/
theorem State.failAttempt_events (s : State) (e : Entry) (err : ErrCode) :
    (s.failAttempt e err).elog = s.elog ∨
    ((s.failAttempt e err).st = .failed ∧ ∃ diag,
      (s.failAttempt e err).elog = s.elog ++ [⟨e.gen, e.cmd, e.payload, err, diag⟩]) := by
  obtain ⟨-, h⟩ | ⟨-, h⟩ := s.failAttempt_cases e err
  · exact .inl (by simp [h])
  · exact .inr ⟨by simp [h], (s.countFailure err).diagSample, by simp [h]⟩

/-- What a step does to the streams of events (10_state.md R30, 42_retry_engine.md R124, R129). -/
def Events (s t : State) : Prop :=
  (t.dlog = s.dlog ∧ t.elog = s.elog) ∨
  (s.st = .await ∧ t.st = .success ∧ t.elog = s.elog ∧
    ∃ e d, s.cur = some e ∧ t.dlog = s.dlog ++ [d] ∧ d.gen = e.gen ∧
      d.target = s.cfg.dispatch.get d.cmd.toFin) ∨
  ((s.st = .writing ∨ s.st = .await) ∧ t.st = .failed ∧ t.dlog = s.dlog ∧
    ∃ e p, s.cur = some e ∧ t.elog = s.elog ++ [p] ∧ p.gen = e.gen ∧ p.cmd = e.cmd ∧
      p.payload = e.payload ∧ p.lastErr = t.lastErr)

theorem Events.failAttempt {s : State} {e : Entry} (hst : s.st = .writing ∨ s.st = .await)
    (hcur : s.cur = some e) (err : ErrCode) : Events s (s.failAttempt e err) := by
  obtain h | ⟨hfailed, diag, h⟩ := s.failAttempt_events e err
  · exact .inl ⟨by simp, h⟩
  · exact .inr (.inr ⟨hst, hfailed, by simp, e, _, hcur, h, rfl, rfl, rfl, by simp⟩)

theorem Events.afterWrite {s : State} {e : Entry} (hst : s.st = .writing) (hcur : s.cur = some e)
    (a : TxAnswer) : Events s (afterWrite e a s) := by
  obtain ⟨-, h⟩ | ⟨-, h⟩ | ⟨-, h⟩ := afterWrite_cases e a s <;> rw [h]
  · exact .inl ⟨rfl, rfl⟩
  · exact .failAttempt (.inl hst) hcur _
  · exact .inl ⟨rfl, rfl⟩

theorem Events.afterRead {s : State} {e : Entry} (hst : s.st = .await) (hcur : s.cur = some e)
    (a : RxAnswer) : Events s (afterRead e a s) := by
  obtain ⟨-, h⟩ | ⟨err, -, -, h⟩ | ⟨b, cmd, payload, -, -, -, h⟩ := afterRead_cases e a s <;> rw [h]
  · exact .inl ⟨rfl, rfl⟩
  · exact .failAttempt (.inr hst) hcur err
  · exact .inr (.inl ⟨hst, rfl, rfl, e, _, hcur, rfl, rfl, rfl⟩)

/-- Only the steps that ask the transport emit events. -/
theorem Effect.events {τ : Turn} {s t : State} (h : Effect τ s t) : Events s t := by
  cases h with
  | write e _ hst hcur => exact Events.afterWrite (s := s.didWrite) hst hcur _
  | recv e _ hst hcur => exact Events.afterRead (s := s.didRead) hst hcur _
  | _ => exact .inl (by simp)

/-- Settles O50: WRITE and RECV are the only effects that emit, at most one event each. -/
theorem eventsCarryTheStampOfTheirCommand : Obligations.EventsCarryTheStampOfTheirCommand := by
  unfold Obligations.EventsCarryTheStampOfTheirCommand
  intro s t h
  obtain ⟨waiting, he⟩ := step_effect h
  simpa [Events] using he.events

/-! ## DIAG_IN: two runs -/

/-- The state in which DIAG_IN will carry `ds` instead. -/
def State.withDiag (ds : List Diag) (s : State) : State := { s with diagIn := ds }

/-- A state without what DIAG_IN will carry and without the `diag` fields of ELOG. -/
def State.hideDiag (t : State) : State :=
  { t with diagIn := [], elog := t.elog.map fun p => { p with diag := [] } }

/-- An outcome without what `State.hideDiag` hides. -/
def hideOutcome : Host.Outcome State Fault Refusal → Host.Outcome State Fault Refusal
  | .next t => .next t.hideDiag
  | .fault r => .fault r
  | .refused r => .refused r

@[simp] theorem hideOutcome_next (t : State) : hideOutcome (.next t) = .next t.hideDiag := rfl

/-- An outcome that is a next state but for what is hidden is a next state. -/
theorem eq_next_of_hideOutcome {o : Host.Outcome State Fault Refusal} {t : State}
    (h : hideOutcome o = .next t.hideDiag) : ∃ t', o = .next t' ∧ t'.hideDiag = t.hideDiag := by
  cases o with
  | next t' => exact ⟨t', rfl, by simpa using h⟩
  | fault | refused => cases h

section
variable (ds : List Diag) (s : State)

@[simp] theorem State.withDiag_cfg : (s.withDiag ds).cfg = s.cfg := rfl
@[simp] theorem State.withDiag_st : (s.withDiag ds).st = s.st := rfl
@[simp] theorem State.withDiag_cur : (s.withDiag ds).cur = s.cur := rfl
@[simp] theorem State.withDiag_failCnt : (s.withDiag ds).failCnt = s.failCnt := rfl
@[simp] theorem State.withDiag_waiting : (s.withDiag ds).waiting = s.waiting := rfl
@[simp] theorem State.withDiag_wire : (s.withDiag ds).wire = s.wire := rfl
@[simp] theorem State.withDiag_pop? : (s.withDiag ds).pop? = s.pop? := rfl
@[simp] theorem State.withDiag_nextTurn : (s.withDiag ds).nextTurn = s.nextTurn := rfl
@[simp] theorem State.withDiag_tierFull (p : Prio) :
    (s.withDiag ds).tierFull p = s.tierFull p := by cases p <;> rfl

/-- The sample goes into the PCF's `diag`. -/
theorem State.exhaust_hideDiag (e : Entry) (err : ErrCode) :
    ((s.withDiag ds).exhaust e err).hideDiag = (s.exhaust e err).hideDiag := by
  simp [State.exhaust, State.hideDiag, State.withDiag, State.didSample]

/-- The only sample of DIAG_IN is taken where the budget is exhausted. -/
theorem State.failAttempt_hideDiag (e : Entry) (err : ErrCode) :
    ((s.withDiag ds).failAttempt e err).hideDiag = (s.failAttempt e err).hideDiag := by
  by_cases hlt : s.failCnt + 1 < maxRetry
  · simp only [State.failAttempt, State.countFailure_failCnt, State.withDiag_failCnt, hlt, if_true]
    rfl
  · simp only [State.failAttempt, State.countFailure_failCnt, State.withDiag_failCnt, hlt, if_false]
    exact (s.countFailure err).exhaust_hideDiag ds e err

theorem afterWrite_hideDiag (e : Entry) (a : TxAnswer) :
    (afterWrite e a (s.withDiag ds)).hideDiag = (afterWrite e a s).hideDiag := by
  cases a with
  | ok | lost => rfl
  | exc => exact s.failAttempt_hideDiag ds e _

theorem afterRead_hideDiag (e : Entry) (a : RxAnswer) :
    (afterRead e a (s.withDiag ds)).hideDiag = (afterRead e a s).hideDiag := by
  match a with
  | .lost => rfl
  | .exc | .bytes [] => exact s.failAttempt_hideDiag ds e _
  | .bytes (b :: bs) =>
    show (afterDecode e (decodeFrame s.cfg (b :: bs) e.cmd) (s.withDiag ds)).hideDiag
      = (afterDecode e (decodeFrame s.cfg (b :: bs) e.cmd) s).hideDiag
    cases decodeFrame s.cfg (b :: bs) e.cmd with
    | ok cmd payload => rfl
    | error err => exact s.failAttempt_hideDiag ds e _

/-- No instruction reads DIAG_IN but to copy it into a PCF (10_state.md R31). -/
theorem exec_hideDiag (i : Instr) :
    hideOutcome (exec i (s.withDiag ds)) = hideOutcome (exec i s) := by
  cases i with
  | enq p cmd payload =>
    simp only [exec, execEnq, State.withDiag_tierFull]
    split
    · rfl
    · split
      · rfl
      · cases p <;> rfl
  | deq =>
    by_cases hst : s.st = .idle
    · simp only [exec, execDeq, State.withDiag_st, State.withDiag_pop?, hst, if_true]
      cases s.pop? <;> rfl
    · simp only [exec, execDeq, State.withDiag_st, hst, if_false]
      rfl
  | write =>
    by_cases hst : s.st = .writing
    · simp only [exec, execWrite, State.withDiag_st, State.withDiag_cur, hst, if_true]
      cases s.cur with
      | none => rfl
      | some e => exact congrArg Host.Outcome.next (afterWrite_hideDiag ds s.didWrite e s.txAnswer)
    · simp only [exec, execWrite, State.withDiag_st, hst, if_false]
      rfl
  | recv =>
    by_cases hst : s.st = .await
    · simp only [exec, execRecv, State.withDiag_st, State.withDiag_cur, hst, if_true]
      cases s.cur with
      | none => rfl
      | some e => exact congrArg Host.Outcome.next (afterRead_hideDiag ds s.didRead e s.rxAnswer)
    · simp only [exec, execRecv, State.withDiag_st, hst, if_false]
      rfl
  | complete =>
    by_cases hst : s.st = .success <;>
      simp only [exec, execComplete, State.withDiag_st, hst, if_true, if_false] <;> rfl
  | resume =>
    by_cases hst : s.st = .failed <;>
      simp only [exec, execResume, State.withDiag_st, hst, if_true, if_false] <;> rfl
  | escLone =>
    simp only [exec, execEscLone, State.withDiag_cfg]
    cases s.cfg.loneEsc <;> rfl
  | _ => rfl

/-- The state at which a fetched move runs, with other values for DIAG_IN. -/
def Fetched.withDiag : Fetched → Fetched
  | .run i u => .run i (u.withDiag ds)
  | .settle u => .settle (u.withDiag ds)

theorem Fetched.outcome_hideDiag (f : Fetched) :
    hideOutcome (f.withDiag ds).outcome = hideOutcome f.outcome := by
  cases f with
  | run i u => exact exec_hideDiag ds u i
  | settle u => rfl

theorem State.didTurn_withDiag : (s.withDiag ds).didTurn = s.didTurn.withDiag ds := by
  unfold State.didTurn
  cases hturns : s.turns <;> simp [State.withDiag, hturns]

/-- What moves next does not depend on DIAG_IN. -/
theorem fetchTurn_withDiag (τ : Turn) :
    fetchTurn τ (s.withDiag ds) = (fetchTurn τ s).withDiag ds := by
  cases τ with
  | request bytes =>
    simp only [fetchTurn, fetchRequest]
    cases decode .host bytes <;> rfl
  | retry k =>
    simp only [fetchTurn, fetchRetry, State.withDiag_waiting]
    cases s.waiting[k]? <;> rfl
  | engine =>
    simp only [fetchTurn, fetchEngine_eq, State.withDiag_st]
    cases s.st <;> rfl
  | load exp raw => rfl
  | wire =>
    simp only [fetchTurn, fetchWire, State.withDiag_wire]
    cases s.wire.result with
    | some r => rfl
    | none =>
      cases decode .wireToken s.wire.raw with
      | ok i => rfl
      | error _ => cases decode .wireFrame s.wire.out <;> rfl

theorem step_hideDiag : hideOutcome (step (s.withDiag ds)) = hideOutcome (step s) := by
  rw [step_eq_outcome, step_eq_outcome, fetch, fetch, State.withDiag_nextTurn,
    State.didTurn_withDiag, fetchTurn_withDiag, Fetched.outcome_hideDiag]

end

/-- Settles O53: the two steps have the same outcome but for what is hidden. -/
theorem diagInIsOpaque : Obligations.DiagInIsOpaque := by
  unfold Obligations.DiagInIsOpaque
  intro s ds hide t h
  have hstep := step_hideDiag ds s
  rw [h, hideOutcome_next] at hstep
  exact eq_next_of_hideOutcome hstep

end Sys2Proof.Machine

/-! # The command in flight and the transport

What can happen to S.CUR and S.FRAME (20_memory.md R61) and to the calls on the transport (R59), read
off the effects of a step. -/

namespace Sys2Proof.Machine

/-! ## What the steps that ask the transport leave unchanged -/

section
variable (e : Entry) (s : State)

@[simp] theorem afterWrite_cur (a : TxAnswer) : (afterWrite e a s).cur = s.cur := by
  obtain ⟨-, h⟩ | ⟨-, h⟩ | ⟨-, h⟩ := afterWrite_cases e a s <;> simp [h]
@[simp] theorem afterWrite_frame (a : TxAnswer) : (afterWrite e a s).frame = s.frame := by
  obtain ⟨-, h⟩ | ⟨-, h⟩ | ⟨-, h⟩ := afterWrite_cases e a s <;> simp [h]
@[simp] theorem afterWrite_link (a : TxAnswer) : (afterWrite e a s).link = s.link := by
  obtain ⟨-, h⟩ | ⟨-, h⟩ | ⟨-, h⟩ := afterWrite_cases e a s <;> simp [h]

@[simp] theorem afterRead_cur (a : RxAnswer) : (afterRead e a s).cur = s.cur := by
  obtain ⟨-, h⟩ | ⟨_, -, -, h⟩ | ⟨_, _, _, -, -, -, h⟩ := afterRead_cases e a s <;> simp [h]
@[simp] theorem afterRead_frame (a : RxAnswer) : (afterRead e a s).frame = s.frame := by
  obtain ⟨-, h⟩ | ⟨_, -, -, h⟩ | ⟨_, _, _, -, -, -, h⟩ := afterRead_cases e a s <;> simp [h]
@[simp] theorem afterRead_link (a : RxAnswer) : (afterRead e a s).link = s.link := by
  obtain ⟨-, h⟩ | ⟨_, -, -, h⟩ | ⟨_, _, _, -, -, -, h⟩ := afterRead_cases e a s <;> simp [h]

end

/-! ## The state of the engine after an answer -/

/-- A failed attempt is retried or exhausts the budget; it never waits for a response
(42_retry_engine.md R114). -/
theorem State.failAttempt_st_ne_await (s : State) (e : Entry) (err : ErrCode) :
    (s.failAttempt e err).st ≠ .await := by
  obtain ⟨-, h⟩ | ⟨-, h⟩ := s.failAttempt_cases e err <;> simp [h]

/-- Every answer to a read ends the wait for the response (42_retry_engine.md R113). -/
theorem afterRead_st_ne_await (e : Entry) (a : RxAnswer) (s : State) :
    (afterRead e a s).st ≠ .await := by
  obtain ⟨-, h⟩ | ⟨err, -, -, h⟩ | ⟨_, _, _, -, -, -, h⟩ := afterRead_cases e a s <;> rw [h]
  · exact nofun
  · exact s.failAttempt_st_ne_await e err
  · exact nofun

/-! ## S.CUR and S.FRAME -/

/-- An effect keeps the command in flight and its frame, releases them into IDLE, or puts a command in
flight with its frame. -/
theorem Effect.snapshot {τ : Turn} {s t : State} (h : Effect τ s t) :
    (t.cur = s.cur ∧ t.frame = s.frame) ∨
    (t.st = .idle ∧ t.cur = none ∧ t.frame = []) ∨
    (s.st = .idle ∧ t.st = .writing ∧
      ∃ e, t.cur = some e ∧ t.frame = encodeFrame s.cfg e.cmd e.payload) := by
  cases h with
  | launch e _ _ _ hst => exact .inr (.inr ⟨hst, rfl, e, rfl, rfl⟩)
  | reset | complete | resume => exact .inr (.inl ⟨rfl, rfl, rfl⟩)
  | _ => exact .inl (by simp)

/-- Settles O51: of the effects only DEQ's writes an entry and its frame, and only the releases and RST
empty them. -/
theorem frameIsASnapshot : Obligations.FrameIsASnapshot := by
  unfold Obligations.FrameIsASnapshot
  intro s t h
  obtain ⟨waiting, he⟩ := step_effect h
  simpa using he.snapshot

/-! ## The calls on the transport -/

/-- An effect makes no call, or is the engine's write of S.FRAME from WRITING, or its read of RX_MAX
from AWAIT. -/
theorem Effect.link {τ : Turn} {s t : State} (h : Effect τ s t) :
    t.link = s.link ∨
    (τ = .engine ∧ s.st = .writing ∧ t.link = s.link ++ [.write s.frame] ∧
      (s.txAnswer = .ok → t.st = .await)) ∨
    (τ = .engine ∧ s.st = .await ∧ t.link = s.link ++ [.read s.cfg.rxMax] ∧ t.st ≠ .await) := by
  cases h with
  | write e hτ hst =>
    exact .inr (.inl ⟨hτ, hst, by simp, fun hok => by rw [hok]; rfl⟩)
  | recv e hτ hst =>
    exact .inr (.inr ⟨hτ, hst, by simp, afterRead_st_ne_await e _ _⟩)
  | _ => exact .inl (by simp)

/-- Settles O52: WRITE and RECV are the only effects that call the transport, one call each. The
answer a write gets does not depend on the held producers. -/
theorem onlyTheEngineCallsTheTransport : Obligations.OnlyTheEngineCallsTheTransport := by
  unfold Obligations.OnlyTheEngineCallsTheTransport
  intro s t h
  obtain ⟨waiting, he⟩ := step_effect h
  have htx : State.txAnswer { s.didTurn with waiting := waiting } = s.didTurn.txAnswer := rfl
  have hlink := he.link
  rw [htx] at hlink
  simpa using hlink

end Sys2Proof.Machine

/-! # The encoding

The request word by its four bytes, what a request word spells (30_encoding.md R74, R79, R80), what the
decoder of each format makes of bytes, and from these: decoding undoes encoding, and the answers to
requests that spell no instruction. -/

namespace Sys2Proof

open Claims

/-! ## The request word by its bytes (20_memory.md R48) -/

theorem u16Of_toNat (lo hi : Byte) : (u16Of lo hi).toNat = lo.toNat + 256 * hi.toNat := by
  rw [u16Of, BitVec.toNat_append, ← Nat.shiftLeft_add_eq_or_of_lt lo.isLt, Nat.shiftLeft_eq]
  omega

/-- The bits of a word are those of its bytes, lowest byte first. -/
theorem getLsbD_wordOf (b0 b1 b2 b3 : Byte) (i : Nat) :
    (wordOf b0 b1 b2 b3).getLsbD i =
      if i < 8 then b0.getLsbD i else if i < 16 then b1.getLsbD (i - 8)
      else if i < 24 then b2.getLsbD (i - 16) else b3.getLsbD (i - 24) := by
  simp only [wordOf, BitVec.getLsbD_append]
  grind

section
variable (b0 b1 b2 b3 : Byte)

/-- The bytes of a word, and its reserved bits 15..9. -/
@[simp] theorem wordOf_fields :
    (wordOf b0 b1 b2 b3).extractLsb' 0 8 = b0 ∧ (wordOf b0 b1 b2 b3).extractLsb' 8 8 = b1 ∧
    (wordOf b0 b1 b2 b3).extractLsb' 16 8 = b2 ∧ (wordOf b0 b1 b2 b3).extractLsb' 24 8 = b3 ∧
    (wordOf b0 b1 b2 b3).extractLsb' 9 7 = b1.extractLsb' 1 7 := by
  refine ⟨?_, ?_, ?_, ?_, ?_⟩ <;>
  · refine BitVec.eq_of_getLsbD_eq fun i hi => ?_
    simp only [BitVec.getLsbD_extractLsb', getLsbD_wordOf]
    grind

theorem wordOf_bit8 : (wordOf b0 b1 b2 b3).getLsbD 8 = b1.getLsbD 0 :=
  getLsbD_wordOf b0 b1 b2 b3 8

@[simp] theorem bytesOfWord_wordOf : bytesOfWord (wordOf b0 b1 b2 b3) = [b0, b1, b2, b3] := by
  simp [bytesOfWord]

/-- Setting the field C of a word whose field C is 0. -/
theorem wordWithCmd_wordOf (cmd : Byte) :
    wordWithCmd (wordOf b0 b1 0#8 0#8) cmd = wordOf b0 b1 cmd 0#8 := by
  refine BitVec.eq_of_getLsbD_eq fun i hi => ?_
  simp only [wordWithCmd, BitVec.getLsbD_or, getLsbD_wordOf, BitVec.getLsbD_shiftLeft,
    BitVec.getLsbD_setWidth]
  grind

end

/-- Every word is put together from its bytes. -/
@[simp] theorem wordOf_extractLsb' (w : Word) :
    wordOf (w.extractLsb' 0 8) (w.extractLsb' 8 8) (w.extractLsb' 16 8) (w.extractLsb' 24 8) = w := by
  refine BitVec.eq_of_getLsbD_eq fun i hi => ?_
  simp only [getLsbD_wordOf, BitVec.getLsbD_extractLsb']
  grind

/-- Words are equal when their bytes are. -/
theorem wordOf_inj {b0 b1 b2 b3 c0 c1 c2 c3 : Byte} :
    wordOf b0 b1 b2 b3 = wordOf c0 c1 c2 c3 ↔ b0 = c0 ∧ b1 = c1 ∧ b2 = c2 ∧ b3 = c3 := by
  refine ⟨fun h => ?_, by rintro ⟨rfl, rfl, rfl, rfl⟩; rfl⟩
  simpa using congrArg bytesOfWord h

/-- A mask acts byte by byte. -/
theorem wordOf_and (b0 b1 b2 b3 m0 m1 m2 m3 : Byte) :
    wordOf b0 b1 b2 b3 &&& wordOf m0 m1 m2 m3 =
      wordOf (b0 &&& m0) (b1 &&& m1) (b2 &&& m2) (b3 &&& m3) := by
  refine BitVec.eq_of_getLsbD_eq fun i hi => ?_
  simp only [BitVec.getLsbD_and, getLsbD_wordOf]
  split_ifs <;> rfl

/-! ## What a request word spells (R74, R79, R80) -/

/-- The value of OP that selects an operation (R74). -/
def HostOp.code : HostOp → Byte
  | .enq => 0x01#8
  | .clr => 0x02#8
  | .stat => 0x03#8
  | .rst => 0x04#8
  | .cksum => 0x10#8
  | .stuff => 0x11#8
  | .unstuff => 0x12#8
  | .encode => 0x13#8
  | .decode => 0x14#8

theorem and_FF (b : Byte) : b &&& 0xFF#8 = b := BitVec.and_allOnes

section
variable (b0 b1 b2 b3 : Byte)

@[simp] theorem opField_wordOf : opField (wordOf b0 b1 b2 b3) = b0 := by simp [opField]

@[simp] theorem cmdOf_wordOf : cmdOf (wordOf b0 b1 b2 b3) = b2 := by simp [cmdOf]

/-- The bits R79 reserves, byte by byte. -/
theorem legalWord_wordOf :
    legalWord (wordOf b0 b1 b2 b3) ↔
      b0 ∈ [0x01#8, 0x02#8, 0x03#8, 0x04#8, 0x10#8, 0x11#8, 0x12#8, 0x13#8, 0x14#8] ∧
      b1.extractLsb' 1 7 = 0#7 ∧ b3 = 0#8 ∧ (b0 ≠ 0x01#8 → b1.getLsbD 0 = false) ∧
      (b0 ∉ [0x01#8, 0x13#8, 0x14#8] → b2 = 0#8) := by
  simp only [legalWord, opField_wordOf, wordOf_fields, wordOf_bit8]

end

/-- Bits 7..1 of a byte, and bit 0 unless it is left free, by mask. -/
theorem and_prioMask_eq_zero_iff (free : Prop) [Decidable free] (b : Byte) :
    b &&& (if free then 0xFE#8 else 0xFF#8) = 0#8 ↔
      b.extractLsb' 1 7 = 0#7 ∧ (¬ free → b.getLsbD 0 = false) := by
  have hlow : b &&& 0xFE#8 = 0#8 ↔ b.extractLsb' 1 7 = 0#7 := by revert b; decide
  have hall : b = 0#8 ↔ b.extractLsb' 1 7 = 0#7 ∧ b.getLsbD 0 = false := by revert b; decide
  by_cases h : free
  · simpa [h] using hlow
  · simpa [h, and_FF] using hall

/-- A byte unless it is left free, by mask. -/
theorem and_cmdMask_eq_zero_iff (free : Prop) [Decidable free] (b : Byte) :
    b &&& (if free then 0x00#8 else 0xFF#8) = 0#8 ↔ (¬ free → b = 0#8) := by
  by_cases h : free <;> simp [h, and_FF]

/-- The pattern of a row is its OP in a word that is 0 elsewhere. -/
theorem hostRow_pattern : ∀ r ∈ hostRows, r.pattern = wordOf r.op.code 0#8 0#8 0#8 := by decide

/-- The mask of a row covers OP and the bits R79 reserves for it. -/
theorem hostRow_mask : ∀ r ∈ hostRows, r.mask =
    wordOf 0xFF#8 (if r.op.code = 0x01#8 then 0xFE#8 else 0xFF#8)
      (if r.op.code ∈ [0x01#8, 0x13#8, 0x14#8] then 0x00#8 else 0xFF#8) 0xFF#8 := by decide

/-- The OPs of R74's producer rows are those of the table. -/
theorem mem_opCodes_iff (c : Byte) :
    c ∈ [0x01#8, 0x02#8, 0x03#8, 0x04#8, 0x10#8, 0x11#8, 0x12#8, 0x13#8, 0x14#8] ↔
      ∃ r ∈ hostRows, c = r.op.code := by
  simp [hostRows, HostOp.code]

/-- Every operation has a row. -/
theorem exists_hostRow (op : HostOp) : ∃ r ∈ hostRows, r.op = op := by
  cases op <;> decide

/-- No two rows share an OP. -/
theorem hostRow_code_injective :
    ∀ r ∈ hostRows, ∀ r' ∈ hostRows, r.op.code = r'.op.code → r = r' := by decide

/-- A row of the table matches the legal words with its OP. -/
theorem hostRow_matches_iff {r : HostRow} (hr : r ∈ hostRows) (w : Word) :
    (w &&& r.mask == r.pattern) = true ↔ opField w = r.op.code ∧ legalWord w := by
  rw [beq_iff_eq, hostRow_pattern r hr, hostRow_mask r hr, ← wordOf_extractLsb' w, wordOf_and,
    wordOf_inj, and_prioMask_eq_zero_iff, and_cmdMask_eq_zero_iff, legalWord_wordOf, opField_wordOf]
  have hcode := (mem_opCodes_iff r.op.code).2 ⟨r, hr, rfl⟩
  simp only [and_FF, and_assoc]
  constructor
  · rintro ⟨hop, hlow, hprio, hcmd, hhigh⟩
    rw [hop]
    exact ⟨rfl, hcode, hlow, hhigh, hprio, hcmd⟩
  · rintro ⟨hop, -, hlow, hhigh, hprio, hcmd⟩
    rw [hop] at hprio hcmd
    exact ⟨hop, hlow, hprio, hcmd, hhigh⟩

/-- The row that a word matches first is a row with its OP, and the word is legal. -/
theorem hostRow_of_find? {w : Word} {r : HostRow}
    (h : (hostRows.find? fun r => w &&& r.mask == r.pattern) = some r) :
    r ∈ hostRows ∧ opField w = r.op.code ∧ legalWord w := by
  have hr := List.mem_of_find?_eq_some h
  have hmatch := List.find?_some h
  exact ⟨hr, (hostRow_matches_iff hr w).1 hmatch⟩

/-- A word spells the operation whose OP it has exactly when it is legal. -/
theorem hostOpOf_eq_some_iff (w : Word) (op : HostOp) :
    hostOpOf w = some op ↔ opField w = op.code ∧ legalWord w := by
  simp only [hostOpOf, Option.map_eq_some_iff]
  constructor
  · rintro ⟨r, hfind, rfl⟩
    exact (hostRow_of_find? hfind).2
  · intro hw
    obtain ⟨r, hr, rfl⟩ := exists_hostRow op
    cases hfind : hostRows.find? fun r => w &&& r.mask == r.pattern with
    | none => exact absurd ((hostRow_matches_iff hr w).2 hw) (List.find?_eq_none.1 hfind r hr)
    | some r' =>
      obtain ⟨hr', hop', -⟩ := hostRow_of_find? hfind
      rw [hostRow_code_injective r' hr' r hr (hop'.symm.trans hw.1)]
      exact ⟨r, rfl, rfl⟩

/-- A legal word spells an operation. -/
theorem exists_hostOpOf {w : Word} (h : legalWord w) : ∃ op, hostOpOf w = some op := by
  obtain ⟨r, -, hop⟩ := (mem_opCodes_iff _).1 h.1
  exact ⟨r.op, (hostOpOf_eq_some_iff w r.op).2 ⟨hop, h⟩⟩

/-- An illegal word spells none. -/
theorem hostOpOf_eq_none {w : Word} (h : ¬ legalWord w) : hostOpOf w = none :=
  Option.eq_none_iff_forall_ne_some.2 fun op hop => h ((hostOpOf_eq_some_iff w op).1 hop).2

/-- Settles O4, read off what a word spells. -/
theorem hostWordIsLegalIffReservedBitsAreZero :
    Obligations.HostWordIsLegalIffReservedBitsAreZero := by
  unfold Obligations.HostWordIsLegalIffReservedBitsAreZero
  intro w
  rw [Option.isSome_iff_exists]
  exact ⟨fun ⟨op, hop⟩ => ((hostOpOf_eq_some_iff w op).1 hop).2, exists_hostOpOf⟩

/-- R74's limit of the data part is the operation's. -/
theorem dataLimit_eq_limit {w : Word} {op : HostOp} (h : hostOpOf w = some op) :
    dataLimit w = op.limit := by
  rw [dataLimit, ((hostOpOf_eq_some_iff w op).1 h).1]
  cases op <;> rfl

/-! ## What the decoder of host requests makes of bytes (R75, R80, R82) -/

/-- A request that ends inside its word is illegal (log 12). -/
theorem decodeHost_short {bytes : List Byte} (h : bytes.length < 4) :
    decode .host bytes = .error .illegal := by
  match bytes with
  | [] | [_] | [_, _] | [_, _, _] => rfl
  | _ :: _ :: _ :: _ :: _ => simp at h; omega

section
variable {b0 b1 b2 b3 : Byte} {rest : List Byte} {op : HostOp} {limit : Nat}

/-- A word that spells no operation is illegal. -/
theorem decodeHost_illegal (h : hostOpOf (wordOf b0 b1 b2 b3) = none) :
    decode .host (b0 :: b1 :: b2 :: b3 :: rest) = .error .illegal := by
  simp [decode, decodeHost, h]

/-- A word that spells an operation without a data part is the whole request. -/
theorem decodeHost_word (h : hostOpOf (wordOf b0 b1 b2 b3) = some op) (hlim : op.limit = none) :
    decode .host (b0 :: b1 :: b2 :: b3 :: rest) = .ok (op.instr (wordOf b0 b1 b2 b3) []) := by
  simp [decode, decodeHost, h, hlim]

/-- A word that spells an operation with a data part is followed by it. -/
theorem decodeHost_data (h : hostOpOf (wordOf b0 b1 b2 b3) = some op) (hlim : op.limit = some limit) :
    decode .host (b0 :: b1 :: b2 :: b3 :: rest) =
      decodeData op (wordOf b0 b1 b2 b3) limit rest := by
  simp [decode, decodeHost, h, hlim]

end

section
variable (op : HostOp) (w : Word) (limit : Nat)

/-- A data part without a count is illegal. -/
theorem decodeData_short {rest : List Byte} (h : rest.length < 2) :
    decodeData op w limit rest = .error .illegal := by
  match rest with
  | [] | [_] => rfl
  | _ :: _ :: _ => simp at h

variable {limit} {n0 n1 : Byte} {data : List Byte}

/-- The count is held to its limit first. -/
theorem decodeData_tooLong (h : limit < n0.toNat + 256 * n1.toNat) :
    decodeData op w limit (n0 :: n1 :: data) = .error .tooLong := by
  simp [decodeData, u16Of_toNat, h]

/-- Then the data part must be complete. -/
theorem decodeData_incomplete (hlim : n0.toNat + 256 * n1.toNat ≤ limit)
    (h : data.length < n0.toNat + 256 * n1.toNat) :
    decodeData op w limit (n0 :: n1 :: data) = .error .illegal := by
  simp [decodeData, u16Of_toNat, h, Nat.not_lt.2 hlim]

/-- A complete data part is the operand, whatever follows it. -/
theorem decodeData_complete (hlim : n0.toNat + 256 * n1.toNat ≤ limit)
    (h : n0.toNat + 256 * n1.toNat ≤ data.length) :
    decodeData op w limit (n0 :: n1 :: data) =
      .ok (op.instr w (data.take (n0.toNat + 256 * n1.toNat))) := by
  simp [decodeData, u16Of_toNat, Nat.not_lt.2 h, Nat.not_lt.2 hlim]

end

/-- Data within its operation's limit makes a well-formed instruction. -/
theorem HostOp.instr_wellFormed {op : HostOp} {limit : Nat} (hlim : op.limit = some limit) (w : Word)
    {data : List Byte} (h : data.length ≤ limit) : (op.instr w data).wellFormed = true := by
  cases op <;> cases hlim <;> simpa [HostOp.instr, Instr.wellFormed] using h

/-- No limit is beyond what the count can say. -/
theorem HostOp.limit_lt {op : HostOp} {limit : Nat} (hlim : op.limit = some limit) :
    limit < 65536 := by
  cases op <;> cases hlim <;> decide

/-! ## Decoding undoes encoding -/

/-- A count below 2^16 is read back. -/
theorem toNat_bytesOfU16_ofNat {n : Nat} (h : n < 65536) :
    (loByte (BitVec.ofNat 16 n)).toNat + 256 * (hiByte (BitVec.ofNat 16 n)).toNat = n := by
  rw [← u16Of_toNat, u16Of_lo_hi, BitVec.toNat_ofNat, Nat.mod_eq_of_lt h]

/-- A word that spells an operation without a data part is its encoding, whatever follows (log 12). -/
theorem decode_bytesOfWord {w : Word} {op : HostOp} (hop : hostOpOf w = some op)
    (hlim : op.limit = none) (rest : List Byte) :
    decode .host (bytesOfWord w ++ rest) = .ok (op.instr w []) := by
  rw [← wordOf_extractLsb' w] at hop
  exact (decodeHost_word hop hlim).trans (by rw [wordOf_extractLsb'])

/-- A request with a data part within its limit is decoded, whatever follows (log 12). -/
theorem decode_encodeRequest {w : Word} {op : HostOp} (hop : hostOpOf w = some op) {limit : Nat}
    (hlim : op.limit = some limit) {data : List Byte} (hlen : data.length ≤ limit)
    (rest : List Byte) :
    decode .host (encodeRequest w data ++ rest) = .ok (op.instr w data) := by
  rw [← wordOf_extractLsb' w] at hop ⊢
  have hlt := op.limit_lt hlim
  have hn := toNat_bytesOfU16_ofNat (n := data.length) (by omega)
  simp only [encodeRequest, bytesOfWord_wordOf, bytesOfCount, bytesOfU16, List.cons_append,
    List.nil_append]
  rw [decodeHost_data hop hlim, decodeData_complete op _ (by omega) (by simp [hn]), hn]
  simp

/-- Filling in the field C of a word that leaves it free keeps the operation (R79). -/
theorem hostOpOf_fillCmd {b0 b1 : Byte} {op : HostOp}
    (hop : hostOpOf (wordOf b0 b1 0#8 0#8) = some op) (hfree : b0 ∈ [0x01#8, 0x13#8, 0x14#8])
    (cmd : Byte) : hostOpOf (wordOf b0 b1 cmd 0#8) = some op := by
  rw [hostOpOf_eq_some_iff, opField_wordOf, legalWord_wordOf] at hop ⊢
  obtain ⟨hcode, hop, hlow, hhigh, hprio, -⟩ := hop
  exact ⟨hcode, hop, hlow, hhigh, hprio, absurd hfree⟩

/-- A request whose operation takes the field C is decoded with that field, whatever follows. -/
theorem decode_encodeRequest_wordWithCmd {w : Word} {b0 b1 : Byte} (hw : w = wordOf b0 b1 0#8 0#8)
    {op : HostOp} (hop : hostOpOf w = some op) (hfree : b0 ∈ [0x01#8, 0x13#8, 0x14#8])
    {limit : Nat} (hlim : op.limit = some limit) (cmd : Byte) {data : List Byte}
    (hlen : data.length ≤ limit) (rest : List Byte) :
    decode .host (encodeRequest (wordWithCmd w cmd) data ++ rest) =
      .ok (op.instr (wordOf b0 b1 cmd 0#8) data) := by
  subst hw
  rw [wordWithCmd_wordOf]
  exact decode_encodeRequest (hostOpOf_fillCmd hop hfree cmd) hlim hlen rest

/-- The field P of a word with the bit of a tier (R77). -/
theorem prioOf_wordOf (b0 b2 b3 : Byte) (p : Prio) :
    prioOf (wordOf b0 (p.bit.setWidth 8) b2 b3) = p := by
  rw [prioOf, wordOf_bit8]
  cases p <;> rfl

/-- Settles O3: the encoding of each operation is a word that spells it, and its data part. -/
theorem bytesAfterARequestAreIgnored : Obligations.BytesAfterARequestAreIgnored := by
  unfold Obligations.BytesAfterARequestAreIgnored
  intro i rest hwf hf
  cases i with
  | clr => exact decode_bytesOfWord (op := .clr) (by decide) rfl rest
  | stat => exact decode_bytesOfWord (op := .stat) (by decide) rfl rest
  | rst => exact decode_bytesOfWord (op := .rst) (by decide) rfl rest
  | cksum => exact decode_encodeRequest (op := .cksum) (by decide) rfl (of_decide_eq_true hwf) rest
  | stuff => exact decode_encodeRequest (op := .stuff) (by decide) rfl (of_decide_eq_true hwf) rest
  | unstuff =>
    exact decode_encodeRequest (op := .unstuff) (by decide) rfl (of_decide_eq_true hwf) rest
  | enq p cmd payload =>
    have hw : 0x00000001#32 ||| (p.bit.setWidth 32 <<< 8) =
        wordOf 0x01#8 (p.bit.setWidth 8) 0#8 0#8 := by cases p <;> rfl
    have hop : hostOpOf (0x00000001#32 ||| (p.bit.setWidth 32 <<< 8)) = some .enq := by
      cases p <;> decide
    rw [encode, decode_encodeRequest_wordWithCmd hw hop (by decide) rfl cmd (of_decide_eq_true hwf),
      HostOp.instr, prioOf_wordOf, cmdOf_wordOf]
  | encode cmd payload =>
    have hw : 0x00000013#32 = wordOf 0x13#8 0#8 0#8 0#8 := rfl
    rw [encode, decode_encodeRequest_wordWithCmd (op := .encode) hw (by decide) (by decide) rfl cmd
      (of_decide_eq_true hwf), HostOp.instr, cmdOf_wordOf]
  | decode exp raw =>
    have hw : 0x00000014#32 = wordOf 0x14#8 0#8 0#8 0#8 := rfl
    rw [encode, decode_encodeRequest_wordWithCmd (op := .decode) hw (by decide) (by decide) rfl exp
      (of_decide_eq_true hwf), HostOp.instr, cmdOf_wordOf]
  | _ => cases hf

/-- The bytes of a frame with any fields decode to them (R63). -/
theorem decode_frameBytes (rtu : Byte) (len : U16) (cmd : Byte) (payload : List Byte) (ck : U16) :
    decode .wireFrame (frameBytes rtu len cmd payload ck) = .ok (.frame rtu len cmd payload ck) := by
  simp [decode, decodeFrameBytes, frameBytes, bytesOfU16]

/-- Settles O2, format by format: a host request is one with nothing after it. -/
theorem decodeUndoesEncode : Obligations.DecodeUndoesEncode := by
  unfold Obligations.DecodeUndoesEncode
  intro i hwf
  cases hf : i.format with
  | host => simpa using bytesAfterARequestAreIgnored i [] hwf hf
  | engineStep =>
    cases i with
    | deq | write | recv | complete | resume => rfl
    | _ => cases hf
  | wireToken =>
    cases i with
    | escStart | escEsc | escLone => rfl
    | escOther b =>
      obtain ⟨hstart, hesc⟩ := of_decide_eq_true hwf
      simp [encode, decode, decodeToken, hstart, hesc]
    | byte b =>
      have hesc := of_decide_eq_true hwf
      simp [encode, decode, decodeToken, hesc]
    | _ => cases hf
  | wireFrame =>
    cases i with
    | frame => exact decode_frameBytes ..
    | _ => cases hf

end Sys2Proof

namespace Sys2Proof.Machine

open Claims

/-! ## The moves of the producers and of the token reader -/

/-- A listed move answers what it comes to once it is used up. -/
theorem step_eq_outcome_cons {s : State} {t : Turn} {more : List Turn} (h : s.turns = t :: more) :
    step s = (fetchTurn t { s with turns := more }).outcome := by
  obtain ⟨hturn, hdid⟩ := s.nextTurn_cons t more h
  rw [step_eq_outcome, fetch, hturn, hdid]

/-- Settles O6: a request that is decoded is run. -/
theorem stepRunsTheDecodedRequest : Obligations.StepRunsTheDecodedRequest := by
  unfold Obligations.StepRunsTheDecodedRequest
  intro s bytes more i hturns hd
  simp [step_eq_outcome_cons hturns, fetchTurn, fetchRequest, hd, Fetched.outcome]

/-- A request that spells no instruction is answered, and nothing else changes (R80). -/
theorem step_request_reject {s : State} {bytes : List Byte} {more : List Turn}
    (hturns : s.turns = .request bytes :: more) {r : Reject} (hd : decode .host bytes = .error r) :
    step s = .next { s with turns := more, resp := s.resp ++ [rejectResponse r] } := by
  simp [step_eq_outcome_cons hturns, fetchTurn, fetchRequest, hd, Fetched.outcome, State.respond]

/-- Settles O57: a request that ends inside its word decodes to no instruction. -/
theorem shortRequestsAreIllegal : Obligations.ShortRequestsAreIllegal := by
  unfold Obligations.ShortRequestsAreIllegal
  intro s more bytes hturns hlen
  exact step_request_reject hturns (decodeHost_short hlen)

/-- Settles O5: each clause is what the decoder makes of the request. -/
theorem illegalRequestsAreAnsweredInOrder : Obligations.IllegalRequestsAreAnsweredInOrder := by
  unfold Obligations.IllegalRequestsAreAnsweredInOrder
  intro s more b0 b1 b2 b3 tail hturns
  refine ⟨fun hw => ?_, fun hw limit hlimit => ?_, fun hw hlimit => ?_⟩
  · exact step_request_reject hturns (decodeHost_illegal (hostOpOf_eq_none hw))
  · obtain ⟨op, hop⟩ := exists_hostOpOf hw
    rw [dataLimit_eq_limit hop] at hlimit
    have hdata := decodeHost_data (rest := tail) hop hlimit
    refine ⟨fun hlen => step_request_reject hturns (hdata.trans (decodeData_short op _ limit hlen)),
      ?_⟩
    rintro n0 n1 data rfl
    refine ⟨fun hlong => ?_, fun hle hlen => ?_, fun hle hlen => ?_⟩
    · exact step_request_reject hturns (hdata.trans (decodeData_tooLong op _ hlong))
    · exact step_request_reject hturns (hdata.trans (decodeData_incomplete op _ hle hlen))
    · exact ⟨_, hdata.trans (decodeData_complete op _ hle hlen),
        op.instr_wellFormed hlimit _ (by rw [List.length_take]; omega)⟩
  · obtain ⟨op, hop⟩ := exists_hostOpOf hw
    rw [dataLimit_eq_limit hop] at hlimit
    exact ⟨_, decodeHost_word hop hlimit⟩

/-- Settles O8: the reader without an answer runs its token, or after the last one its frame. -/
theorem stepRunsTheTokenOrTheFrame : Obligations.StepRunsTheTokenOrTheFrame := by
  unfold Obligations.StepRunsTheTokenOrTheFrame
  intro s more i hturns hresult
  rw [step_eq_outcome_cons hturns]
  refine ⟨fun htok => ?_, fun hraw hframe => ?_⟩
  · simp [fetchTurn, fetchWire, hresult, htok, Fetched.outcome]
  · have htok : decode .wireToken s.wire.raw = .error .noToken := by rw [hraw]; rfl
    simp [fetchTurn, fetchWire, hresult, htok, hframe, Fetched.outcome]

/-- Settles O54: each token's meaning, and LONE_ESC's two. -/
theorem tokensEmitAndConsume : Obligations.TokensEmitAndConsume := by
  unfold Obligations.TokensEmitAndConsume
  intro s b
  refine ⟨rfl, rfl, rfl, fun hlone => ?_, fun hlone => ?_, rfl⟩
  · simp [exec, execEscLone, hlone, State.malformedToken]
  · simp [exec, execEscLone, hlone, State.emitToken, esc]

/-- Settles O1: each sequence is decoded by evaluation. -/
theorem spelledWordsDecode : Obligations.SpelledWordsDecode := by
  unfold Obligations.SpelledWordsDecode
  refine ⟨?_, ?_, ?_, ?_, ?_, ?_, ?_, ?_, ?_⟩ <;> rfl

/-! ## The length of a stuffed frame (R69) -/

/-- Stuffing adds one byte for each byte it escapes (R67). -/
theorem length_flatMap_stuffByte (x : List Byte) :
    (x.flatMap stuffByte).length = x.length + (x.filter isSpecial).length := by
  induction x with
  | nil => rfl
  | cons b x ih =>
    cases hb : isSpecial b with
    | true => simp [stuffByte_special b hb, hb, ih]; omega
    | false => simp [stuffByte_plain b hb, hb, ih]; omega

/-- Stuffing escapes every special byte but one at index 0 (R86). -/
theorem stuffBytes_length (x : List Byte) :
    (stuffBytes x).length = x.length + (x.tail.filter isSpecial).length := by
  cases x with
  | nil => rfl
  | cons b x =>
    have := length_flatMap_stuffByte x
    simp only [stuffBytes_cons, List.length_cons, List.tail_cons]
    omega

/-- Settles O14: the escaped bytes are among the `n + 6` after START. -/
theorem stuffedFrameLength : Obligations.StuffedFrameLength := by
  unfold Obligations.StuffedFrameLength
  intro cfg cmd p
  refine ⟨_, rfl, ?_, ?_, fun hp => ?_⟩
  · rw [encodeFrame, stuffBytes_length, plainFrame_length]
    rfl
  · calc _ ≤ (plainFrame cfg cmd p).tail.length := List.length_filter_le ..
      _ = p.length + 6 := by simp
  · have := encodeFrame_length_le cfg cmd p
    omega

/-! ## The checks on a frame (60_exceptions.md R133) -/

/-- The model's checksum is R85's loop. -/
theorem cksumFrom_eq_checksumLoop (table : Vector U16 256) (c : U16) (d : List Byte) :
    cksumFrom table c d = checksumLoop table c d := by
  induction d generalizing c with
  | nil => rfl
  | cons b d ih => exact ih _

section
variable (rtu : Byte) (len : U16) (cmd : Byte) (p : List Byte) (ck : U16)

@[simp] theorem frameBytes_length : (frameBytes rtu len cmd p ck).length = p.length + 7 := by
  simp [frameBytes]

theorem lenField_frameBytes : lenField (frameBytes rtu len cmd p ck) = len.toNat := by
  simp [lenField, frameBytes]

/-- A frame's bytes before its checksum. -/
theorem frameBytes_take :
    (frameBytes rtu len cmd p ck).take (cmdOffset + (p.length + 1)) =
      [start, rtu, loByte len, hiByte len, cmd] ++ p := by
  have hend : cmdOffset + (p.length + 1) = p.length + 5 := Nat.add_comm ..
  simp [frameBytes, hend]

/-- The checksum field of a frame whose LEN is right. -/
theorem cksumField_frameBytes : cksumField (frameBytes rtu len cmd p ck) (p.length + 1) = ck := by
  have hend : cmdOffset + (p.length + 1) = p.length + 5 := Nat.add_comm ..
  simp [cksumField, frameBytes, hend, bytesOfU16]

/-- The checks on the bytes of a frame, field by field. -/
theorem checkFrame_frameBytes (cfg : Config) (exp : Byte) :
    checkFrame cfg exp (frameBytes rtu len cmd p ck) =
      if rtu ≠ cfg.rtuId then .error .rtuMismatch
      else if cmd ≠ exp then .error .commandMismatch
      else if len.toNat ≠ p.length + 1 then .error .lengthMismatch
      else if ck ≠ checksum cfg ([start, rtu, loByte len, hiByte len, cmd] ++ p) then
        .error .checksumMismatch
      else .ok cmd p := by
  have hstart : (frameBytes rtu len cmd p ck)[0]? = some start := rfl
  have hrtu : (frameBytes rtu len cmd p ck)[1]? = some rtu := rfl
  have hcmd : (frameBytes rtu len cmd p ck)[cmdOffset]? = some cmd := rfl
  have hcmdD : (frameBytes rtu len cmd p ck).getD cmdOffset 0#8 = cmd := rfl
  have hlong : ¬ p.length + 7 < 5 := by omega
  have hlen : len.toNat < 1 ∨ p.length + 7 ≠ cmdOffset + len.toNat + 2 ↔
      len.toNat ≠ p.length + 1 := by
    rw [cmdOffset]; omega
  simp only [checkFrame, hstart, hrtu, hcmd, hcmdD, lenField_frameBytes, frameBytes_length, hlong,
    hlen, if_false, ne_eq, Option.some_inj, not_true_eq_false]
  by_cases h : len.toNat = p.length + 1
  · rw [h, cksumField_frameBytes, frameBytes_take]
    rfl
  · simp [h]

end

/-- Settles O55: FRAME keeps what the checks answer, and their checksum is R85's loop. -/
theorem frameIsChecked : Obligations.FrameIsChecked := by
  unfold Obligations.FrameIsChecked
  intro s rtu len cmd p ck
  refine ⟨_, rfl, ?_⟩
  rw [checkFrame_frameBytes, checksum, cksumFrom_eq_checksumLoop]
  refine ⟨fun hrtu => ?_, fun hrtu hcmd => ?_, fun hrtu hcmd hlen => ?_,
    fun hrtu hcmd hlen => ⟨fun hck => ?_, fun hck => ?_⟩⟩
  · simp [hrtu]
  · simp [hrtu, hcmd]
  · simp [hrtu, hcmd, hlen]
  · rw [if_neg (not_not.2 hrtu), if_neg (not_not.2 hcmd), if_neg (not_not.2 hlen)]
    exact if_pos hck
  · rw [if_neg (not_not.2 hrtu), if_neg (not_not.2 hcmd), if_neg (not_not.2 hlen)]
    exact if_neg (not_not.2 hck)

end Sys2Proof.Machine

/-! # The codec

What the operations of 40_codec.md answer, and the laws of the functions they compute: the running
checksum (R85, R97, R98), stuffing and unstuffing (R86, R87, R95), frames (R88, R89, R94, R96), and
the token reader against the atomic Decode (log 6). -/

namespace Sys2Proof.Machine

open Claims

/-! ## When unstuffing undoes stuffing (R95) -/

/-- The bytes after index 0 are read back whatever they are. -/
theorem unstuffBytes_flatMap_stuffByte (lone : LoneEsc) (x : List Byte) :
    unstuffBytes lone (x.flatMap stuffByte) = .ok x := by
  induction x with
  | nil => rfl
  | cons b x ih =>
    rw [List.flatMap_cons]
    cases hb : isSpecial b with
    | true =>
      have hpair : b = start ∨ b = esc := by simpa [isSpecial] using hb
      rw [stuffByte_special b hb, List.cons_append, List.singleton_append,
        unstuffBytes_pair lone b _ hpair, ih]
      rfl
    | false =>
      have hne : b ≠ esc := by rintro rfl; cases hb
      rw [stuffByte_plain b hb, List.singleton_append, unstuffBytes_plain lone b _ hne, ih]
      rfl

/-- A sequence that does not begin with the escape byte is read back. -/
theorem unstuffBytes_stuffBytes_of_head (lone : LoneEsc) {x : List Byte} (h : x.head? ≠ some esc) :
    unstuffBytes lone (stuffBytes x) = .ok x := by
  cases x with
  | nil => rfl
  | cons b x =>
    have hb : b ≠ esc := by simpa using h
    rw [stuffBytes_cons, unstuffBytes_plain lone b _ hb, unstuffBytes_flatMap_stuffByte]
    rfl

/-- An escape byte at index 0 is read on its own: stuffed or not, the next byte then stands as it
would at index 0. -/
theorem unstuffBytes_stuffBytes_esc_cons (lone : LoneEsc) (c : Byte) (x : List Byte) :
    unstuffBytes lone (stuffBytes (esc :: c :: x)) =
      (unstuffBytes lone (stuffBytes (c :: x))).map (esc :: ·) := by
  rw [stuffBytes_cons, List.flatMap_cons, stuffBytes_cons]
  cases hc : isSpecial c with
  | true =>
    rw [stuffByte_special c hc]
    exact unstuffBytes_pair lone esc _ (.inr rfl)
  | false =>
    have hne : c ≠ start ∧ c ≠ esc := by simpa [isSpecial] using hc
    rw [stuffByte_plain c hc]
    exact unstuffBytes_escOther lone c _ hne

/-- With LITERAL every sequence is read back. -/
theorem unstuffBytes_literal_stuffBytes (x : List Byte) :
    unstuffBytes .literal (stuffBytes x) = .ok x := by
  induction x with
  | nil => rfl
  | cons b x ih =>
    by_cases hb : b = esc
    · subst hb
      cases x with
      | nil => rfl
      | cons c x => rw [unstuffBytes_stuffBytes_esc_cons, ih]; rfl
    · exact unstuffBytes_stuffBytes_of_head _ (by simpa using hb)

/-- With MALFORMED a sequence that has a byte other than the escape byte is read back. -/
theorem unstuffBytes_malformed_stuffBytes {x : List Byte} (h : ∃ b ∈ x, b ≠ esc) :
    unstuffBytes .malformed (stuffBytes x) = .ok x := by
  induction x with
  | nil => rfl
  | cons b x ih =>
    by_cases hb : b = esc
    · subst hb
      have htail : ∃ b ∈ x, b ≠ esc := by simpa using h
      cases x with
      | nil => simp at htail
      | cons c x => rw [unstuffBytes_stuffBytes_esc_cons, ih htail]; rfl
    · exact unstuffBytes_stuffBytes_of_head _ (by simpa using hb)

/-- With MALFORMED a run of escape bytes alone is not. -/
theorem unstuffBytes_malformed_stuffBytes_replicate (n : Nat) :
    unstuffBytes .malformed (stuffBytes (List.replicate (n + 1) esc)) = .error .malformedFrame := by
  induction n with
  | zero => rfl
  | succ n ih =>
    rw [List.replicate_succ, List.replicate_succ, unstuffBytes_stuffBytes_esc_cons,
      ← List.replicate_succ, ih]
    rfl

/-- Settles O18: a leading escape byte is read on its own until a byte that is none follows. -/
theorem unstuffUndoesStuff : Obligations.UnstuffUndoesStuff := by
  unfold Obligations.UnstuffUndoesStuff
  refine ⟨unstuffBytes_literal_stuffBytes, ?_, unstuffBytes_malformed_stuffBytes_replicate,
    fun lone x hx => unstuffBytes_stuffBytes_of_head lone hx⟩
  rintro x (rfl | hx)
  · rfl
  · exact unstuffBytes_malformed_stuffBytes hx

/-! ## Decoding an encoded frame (R94) -/

/-- The unstuffed frame is the layout of R63 with its fields filled in. -/
theorem plainFrame_eq_frameBytes (cfg : Config) (cmd : Byte) (p : List Byte) :
    plainFrame cfg cmd p =
      frameBytes cfg.rtuId (BitVec.ofNat 16 (p.length + 1)) cmd p
        (checksum cfg (framePrefix cfg cmd p)) := rfl

/-- The checksummed bytes of a frame by its fields (R88). -/
theorem framePrefix_eq (cfg : Config) (cmd : Byte) (p : List Byte) :
    framePrefix cfg cmd p =
      [start, cfg.rtuId, loByte (BitVec.ofNat 16 (p.length + 1)),
        hiByte (BitVec.ofNat 16 (p.length + 1)), cmd] ++ p := rfl

/-- Decoding the stuffing of a frame is checking its fields: START needs no escape. -/
theorem decodeFrame_stuffBytes_frameBytes (cfg : Config) (rtu : Byte) (len : U16) (cmd : Byte)
    (p : List Byte) (ck : U16) (exp : Byte) :
    decodeFrame cfg (stuffBytes (frameBytes rtu len cmd p ck)) exp =
      checkFrame cfg exp (frameBytes rtu len cmd p ck) := by
  have hhead : (frameBytes rtu len cmd p ck).head? ≠ some esc := by simp [frameBytes, start, esc]
  rw [decodeFrame, unstuffBytes_stuffBytes_of_head _ hhead]

/-- The LEN field of a payload within the limit (R65, R75). -/
theorem toNat_len {n : Nat} (h : n ≤ 255) : (BitVec.ofNat 16 (n + 1)).toNat = n + 1 := by
  rw [BitVec.toNat_ofNat]; omega

/-- Decoding an encoded frame: every check but the command's passes. -/
theorem decodeFrame_encodeFrame (cfg : Config) (cmd : Byte) {p : List Byte} (hp : p.length ≤ 255)
    (exp : Byte) :
    decodeFrame cfg (encodeFrame cfg cmd p) exp =
      if cmd ≠ exp then .error .commandMismatch else .ok cmd p := by
  rw [encodeFrame, plainFrame_eq_frameBytes, decodeFrame_stuffBytes_frameBytes,
    checkFrame_frameBytes, toNat_len hp, ← framePrefix_eq, if_neg (not_not.2 rfl),
    if_neg (not_not.2 rfl), if_neg (not_not.2 rfl)]

/-- Settles O17: unstuffing gives the frame back, and the checks ask for the command only. -/
theorem frameRoundTrip : Obligations.FrameRoundTrip := by
  unfold Obligations.FrameRoundTrip
  intro cfg cmd p hp
  have hdecode := decodeFrame_encodeFrame cfg cmd hp
  exact ⟨(hdecode cmd).trans (if_neg (not_not.2 rfl)),
    fun exp hexp => (hdecode exp).trans (if_pos hexp.symm)⟩

/-! ## The checksum (R85, R97, R98) -/

/-- The checksum is R85's loop from 0. -/
theorem checksum_eq_checksumLoop (cfg : Config) (d : List Byte) :
    checksum cfg d = checksumLoop cfg.cksumTable 0#16 d := cksumFrom_eq_checksumLoop ..

/-- The loop over two sequences is the loop over the second from where the first one left it. -/
theorem cksumFrom_append (table : Vector U16 256) (c : U16) (a b : List Byte) :
    cksumFrom table c (a ++ b) = cksumFrom table (cksumFrom table c a) b := List.foldl_append

/-- A round from 0 is the table's entry. -/
theorem cksumRound_zero (table : Vector U16 256) (b : Byte) :
    cksumRound table 0#16 b = table.get b.toFin := by
  have hhi : (hiByte 0#16).setWidth 16 = 0#16 := rfl
  have hlo : loByte 0#16 ^^^ b = b := BitVec.zero_xor
  rw [cksumRound, hhi, hlo, BitVec.zero_xor]

/-- Settles O10: the loop is a fold, and a round from 0 is an entry of the table. -/
theorem checksumContinuesFromAPrefix : Obligations.ChecksumContinuesFromAPrefix := by
  unfold Obligations.ChecksumContinuesFromAPrefix
  intro cfg a b
  refine ⟨?_, cksumRound_zero cfg.cksumTable 0x7E#8⟩
  rw [← cksumFrom_eq_checksumLoop]
  exact cksumFrom_append ..

/-- A 16-bit value is its two bytes. -/
theorem eq_of_loByte_eq_of_hiByte_eq {c d : U16} (hlo : loByte c = loByte d)
    (hhi : hiByte c = hiByte d) : c = d := by
  rw [← u16Of_lo_hi c, hlo, hhi, u16Of_lo_hi]

/-- The high byte after a round is that of the table's entry. -/
theorem hiByte_cksumRound (table : Vector U16 256) (c : U16) (b : Byte) :
    hiByte (cksumRound table c b) = hiByte (table.get (loByte c ^^^ b).toFin) := by
  refine BitVec.eq_of_getLsbD_eq fun i hi => ?_
  simp [cksumRound, hiByte]

section
variable {cfg : Config} (hperm : cfg.cksumPerm)
include hperm

/-- Under CKSUM_PERM the outcome of a round says which entry was taken. -/
theorem index_eq_of_cksumRound_eq {c d : U16} {x y : Byte}
    (h : cksumRound cfg.cksumTable c x = cksumRound cfg.cksumTable d y) :
    loByte c ^^^ x = loByte d ^^^ y := by
  have hhi := congrArg hiByte h
  rw [hiByte_cksumRound, hiByte_cksumRound] at hhi
  exact BitVec.eq_of_toFin_eq (hperm _ _ hhi)

/-- Under CKSUM_PERM a round loses nothing: the entry taken gives the low byte back, and then the
entry's value the high byte. -/
theorem cksumRound_injective (b : Byte) :
    Function.Injective fun c => cksumRound cfg.cksumTable c b := by
  intro c d h
  have hindex := index_eq_of_cksumRound_eq hperm h
  have hlo : loByte c = loByte d := (BitVec.xor_left_inj b).1 hindex
  have hhi : (hiByte c).setWidth 16 = (hiByte d).setWidth 16 := by
    simpa [cksumRound, hindex] using h
  exact eq_of_loByte_eq_of_hiByte_eq hlo (by simpa using congrArg (BitVec.setWidth 8) hhi)

/-- Under CKSUM_PERM different values stay different over any bytes. -/
theorem cksumFrom_injective (d : List Byte) :
    Function.Injective fun c => cksumFrom cfg.cksumTable c d := by
  induction d with
  | nil => exact fun _ _ h => h
  | cons b d ih => exact ih.comp (cksumRound_injective hperm b)

/-- Under CKSUM_PERM one changed byte changes the checksum. -/
theorem checksum_ne_of_byte_ne (a d : List Byte) {x y : Byte} (hxy : x ≠ y) :
    checksum cfg (a ++ x :: d) ≠ checksum cfg (a ++ y :: d) := by
  simp only [checksum, cksumFrom_append, cksumFrom_cons]
  intro h
  have hindex := index_eq_of_cksumRound_eq hperm (cksumFrom_injective hperm d h)
  exact hxy ((BitVec.xor_right_inj _).1 hindex)

end

/-- Settles O19: a round is injective on a finite type, and the rounds after the changed byte keep
the difference it makes. -/
theorem cksumPermDetectsOneByte : Obligations.CksumPermDetectsOneByte := by
  unfold Obligations.CksumPermDetectsOneByte
  intro cfg hperm
  exact ⟨fun b => Finite.injective_iff_bijective.1 (cksumRound_injective hperm b),
    fun a d x y hxy => checksum_ne_of_byte_ne hperm a d hxy⟩

/-! ## A changed byte of a frame (R96) -/

section
variable (rtu : Byte) (len : U16) (cmd : Byte) (p : List Byte) (ck : U16) (new : Byte)

theorem frameBytes_set_lenLo :
    (frameBytes rtu len cmd p ck).set 2 new = frameBytes rtu (u16Of new (hiByte len)) cmd p ck := by
  simp [frameBytes]

theorem frameBytes_set_lenHi :
    (frameBytes rtu len cmd p ck).set 3 new = frameBytes rtu (u16Of (loByte len) new) cmd p ck := by
  simp [frameBytes]

theorem frameBytes_set_payload {j : Nat} (hj : j < p.length) :
    (frameBytes rtu len cmd p ck).set (j + 5) new = frameBytes rtu len cmd (p.set j new) ck := by
  simp [frameBytes, List.set_append_left, hj]

end

section
variable (cfg : Config) (cmd new : Byte) {p : List Byte}

/-- Another byte in START's place, other than the escape byte, is a wrong header. -/
theorem decodeFrame_changedStart (x : List Byte) (exp : Byte) (hstart : new ≠ start)
    (hesc : new ≠ esc) : decodeFrame cfg (stuffBytes (new :: x)) exp = .error .headerMismatch := by
  have hhead : (new :: x).head? ≠ some esc := by simpa using hesc
  rw [decodeFrame, unstuffBytes_stuffBytes_of_head _ hhead]
  simp [checkFrame, hstart]

/-- Another RTU is a wrong RTU. -/
theorem decodeFrame_changedRtu (hnew : new ≠ cfg.rtuId) :
    decodeFrame cfg (stuffBytes ((plainFrame cfg cmd p).set 1 new)) cmd = .error .rtuMismatch := by
  have hset : (plainFrame cfg cmd p).set 1 new = frameBytes new _ cmd p _ := rfl
  rw [hset, decodeFrame_stuffBytes_frameBytes, checkFrame_frameBytes, if_pos hnew]

/-- Another LEN than the payload's is a wrong length. -/
theorem decodeFrame_changedLen (len ck : U16) (hlen : len.toNat ≠ p.length + 1) :
    decodeFrame cfg (stuffBytes (frameBytes cfg.rtuId len cmd p ck)) cmd
      = .error .lengthMismatch := by
  rw [decodeFrame_stuffBytes_frameBytes, checkFrame_frameBytes, if_neg (not_not.2 rfl),
    if_neg (not_not.2 rfl), if_pos hlen]

/-- Another CMD is a wrong command. -/
theorem decodeFrame_changedCmd (hnew : new ≠ cmd) :
    decodeFrame cfg (stuffBytes ((plainFrame cfg cmd p).set 4 new)) cmd
      = .error .commandMismatch := by
  have hset : (plainFrame cfg cmd p).set 4 new = frameBytes cfg.rtuId _ new p _ := rfl
  rw [hset, decodeFrame_stuffBytes_frameBytes, checkFrame_frameBytes, if_neg (not_not.2 rfl),
    if_pos hnew]

/-- Another payload byte is a wrong checksum, under CKSUM_PERM. -/
theorem decodeFrame_changedPayload (hp : p.length ≤ 255) (hperm : cfg.cksumPerm) {j : Nat}
    (hj : j < p.length) (hnew : new ≠ p[j]) :
    decodeFrame cfg (stuffBytes ((plainFrame cfg cmd p).set (j + 5) new)) cmd
      = .error .checksumMismatch := by
  have hsum : checksum cfg (framePrefix cfg cmd p) ≠
      checksum cfg ([start, cfg.rtuId, loByte (BitVec.ofNat 16 (p.length + 1)),
        hiByte (BitVec.ofNat 16 (p.length + 1)), cmd] ++ p.set j new) := by
    have hsplit : p = p.take j ++ p[j] :: p.drop (j + 1) := by simp
    rw [framePrefix_eq, List.set_eq_take_append_cons_drop, if_pos hj]
    generalize [start, cfg.rtuId, loByte _, hiByte _, cmd] = head
    rw [congrArg (head ++ ·) hsplit, ← List.append_assoc, ← List.append_assoc]
    exact checksum_ne_of_byte_ne hperm _ _ hnew.symm
  rw [plainFrame_eq_frameBytes, frameBytes_set_payload _ _ _ _ _ _ hj,
    decodeFrame_stuffBytes_frameBytes, checkFrame_frameBytes, if_neg (not_not.2 rfl),
    if_neg (not_not.2 rfl), List.length_set, toNat_len hp, if_neg (not_not.2 rfl), if_pos hsum]

end

/-- LEN is another once one of its bytes is. -/
theorem toNat_u16Of_ne {lo hi : Byte} {n : Nat} (hn : n ≤ 255)
    (h : lo ≠ loByte (BitVec.ofNat 16 (n + 1)) ∨ hi ≠ hiByte (BitVec.ofNat 16 (n + 1))) :
    (u16Of lo hi).toNat ≠ n + 1 := by
  intro heq
  have hlen : BitVec.ofNat 16 (n + 1) = u16Of lo hi :=
    BitVec.eq_of_toNat_eq ((toNat_len hn).trans heq.symm)
  rw [hlen, loByte_u16Of, hiByte_u16Of] at h
  exact h.elim (· rfl) (· rfl)

/-- Settles O20: the changed frame is a frame with one field changed, and the checks say which. -/
theorem changedByteIsDetected : Obligations.ChangedByteIsDetected := by
  unfold Obligations.ChangedByteIsDetected
  intro cfg cmd p i old new hp hold hnew
  refine ⟨?_, fun _ _ => ⟨?_, ?_, ?_, ?_⟩⟩
  · rintro rfl hesc
    cases hold
    exact decodeFrame_changedStart cfg new _ cmd hnew hesc
  · rintro rfl
    cases hold
    exact decodeFrame_changedRtu cfg cmd new hnew
  · rintro (rfl | rfl) <;> cases hold <;> rw [plainFrame_eq_frameBytes]
    · rw [frameBytes_set_lenLo]
      exact decodeFrame_changedLen cfg cmd _ _ (toNat_u16Of_ne hp (.inl hnew))
    · rw [frameBytes_set_lenHi]
      exact decodeFrame_changedLen cfg cmd _ _ (toNat_u16Of_ne hp (.inr hnew))
  · rintro rfl
    cases hold
    exact decodeFrame_changedCmd cfg cmd new hnew
  · intro hlow hhigh hperm
    obtain ⟨j, rfl⟩ := Nat.exists_eq_add_of_le' hlow
    have hj : j < p.length := by omega
    have hbyte : p[j] = old := by
      rw [plainFrame_eq_frameBytes] at hold
      simpa [frameBytes, List.getElem?_append_left hj, hj] using hold
    exact decodeFrame_changedPayload cfg cmd new hp hperm hj (hbyte.symm ▸ hnew)

/-! ## The operations' answers (R85 to R89) -/

theorem loByte_ofNat (n : Nat) : loByte (BitVec.ofNat 16 n) = BitVec.ofNat 8 (n % 256) :=
  BitVec.eq_of_toNat_eq (by simp [loByte])

theorem hiByte_ofNat (n : Nat) : hiByte (BitVec.ofNat 16 n) = BitVec.ofNat 8 (n / 256) :=
  BitVec.eq_of_toNat_eq (by simp [hiByte, Nat.shiftRight_eq_div_pow]; omega)

/-- A count as the rules write it. -/
theorem le16_eq_bytesOfCount (n : Nat) : le16 n = bytesOfCount n := by
  have hhi : BitVec.ofNat 8 (n / 256 % 256) = BitVec.ofNat 8 (n / 256) :=
    BitVec.eq_of_toNat_eq (by simp)
  rw [le16, hhi, bytesOfCount, bytesOfU16, loByte_ofNat, hiByte_ofNat]

/-- The checksummed bytes of a frame as R88 writes them. -/
theorem pre_eq_framePrefix (cfg : Config) (cmd : Byte) (p : List Byte) :
    pre cfg.rtuId cmd p = framePrefix cfg cmd p := by
  rw [framePrefix_eq, loByte_ofNat, hiByte_ofNat]
  rfl

/-- A request spelled byte by byte, with a data part within its limit, is decoded. -/
theorem decode_request {b0 b1 b2 b3 : Byte} {op : HostOp}
    (hop : hostOpOf (wordOf b0 b1 b2 b3) = some op) {limit : Nat} (hlim : op.limit = some limit)
    {data : List Byte} (hlen : data.length ≤ limit) :
    decode .host (request b0 b1 b2 b3 data) = .ok (op.instr (wordOf b0 b1 b2 b3) data) := by
  have h := decode_encodeRequest hop hlim hlen []
  rwa [List.append_nil, encodeRequest, bytesOfWord_wordOf, ← le16_eq_bytesOfCount] at h

section
variable (s : State) {d : List Byte} (hd : d.length ≤ hostMaxData)
include hd

/-- CKSUM within the limit of its data part. -/
theorem exec_cksum : exec (.cksum d) s =
    .next (s.respond (respOk :: bytesOfU16 (checksum s.cfg d))) := by
  rw [exec, execCksum, if_neg (Nat.not_lt.2 hd)]

/-- STUFF within the limit of its data part. -/
theorem exec_stuff : exec (.stuff d) s =
    .next (s.respond (respOk :: bytesOfCount (stuffBytes d).length ++ stuffBytes d)) := by
  rw [exec, execStuff, if_neg (Nat.not_lt.2 hd)]

/-- UNSTUFF within the limit of its data part. -/
theorem exec_unstuff : exec (.unstuff d) s =
    .next (s.respond (respOk :: unstuffResponse (unstuffBytes s.cfg.loneEsc d))) := by
  rw [exec, execUnstuff, if_neg (Nat.not_lt.2 hd)]

/-- DECODE within the limit of its data part. -/
theorem exec_decode (exp : Byte) : exec (.decode exp d) s =
    .next (s.respond (respOk :: decodeResponse (decodeFrame s.cfg d exp))) := by
  rw [exec, execDecode, if_neg (Nat.not_lt.2 hd)]

end

/-- ENCODE of a payload within the limit. -/
theorem exec_encode (s : State) (cmd : Byte) {p : List Byte} (hp : p.length ≤ maxPayload) :
    exec (.encode cmd p) s = .next (s.respond
      (respOk :: bytesOfCount (encodeFrame s.cfg cmd p).length ++ encodeFrame s.cfg cmd p)) := by
  rw [exec, execEncode, if_neg (Nat.not_lt.2 hp)]

/-- ENCODE of a payload over the limit. -/
theorem exec_encode_tooLong (s : State) (cmd : Byte) {p : List Byte} (hp : maxPayload < p.length) :
    exec (.encode cmd p) s = .next (s.respond [respTooLong]) := by
  rw [exec, execEncode, if_pos hp]

/-- Settles O9: the answer is the checksum, and the checksum is R85's loop. -/
theorem cksumAnswersTheRunningChecksum : Obligations.CksumAnswersTheRunningChecksum := by
  unfold Obligations.CksumAnswersTheRunningChecksum
  intro s d hd
  refine ⟨decode_request (op := .cksum) (by decide) rfl hd, ?_⟩
  rw [exec_cksum s hd, checksum_eq_checksumLoop]
  rfl

/-- What stuffing makes of the bytes after index 0, as R86 writes it. -/
theorem flatMap_stuffByte_eq (x : List Byte) :
    x.flatMap stuffByte =
      (x.map fun c => if c = 0x7E#8 ∨ c = 0x10#8 then [0x10#8, c] else [c]).flatten := by
  have hbyte : stuffByte = fun c => if c = 0x7E#8 ∨ c = 0x10#8 then [0x10#8, c] else [c] := by
    funext c
    simp [stuffByte, isSpecial, start, esc]
  rw [List.flatMap_def, hbyte]

/-- Settles O11: the answer is the stuffed bytes, byte by byte R86's. -/
theorem stuffAnswersTheStuffedBytes : Obligations.StuffAnswersTheStuffedBytes := by
  unfold Obligations.StuffAnswersTheStuffedBytes
  intro s x hx
  refine ⟨decode_request (op := .stuff) (by decide) rfl hx, stuffBytes x, ?_, ?_, ?_⟩
  · rw [exec_stuff s hx, le16_eq_bytesOfCount]
    rfl
  · rintro rfl
    rfl
  · rintro b rest rfl
    rw [stuffBytes_cons, flatMap_stuffByte_eq]

/-- Unstuffing fails in one way (R87). -/
theorem eq_malformedFrame_of_unstuffBytes {lone : LoneEsc} {r : List Byte} {e : FrameError}
    (h : unstuffBytes lone r = .error e) : e = .malformedFrame := by
  have of_map {x : Except FrameError (List Byte)} {b : Byte} (h : x.map (b :: ·) = .error e) :
      x = .error e := by
    cases x <;> cases h
    rfl
  fun_induction unstuffBytes lone r with
  | case1 => cases h
  | case2 => cases h; rfl
  | case3 => cases h
  | case4 => cases h
  | case5 _ _ _ _ ih => exact ih (of_map h)
  | case6 _ _ _ _ ih => exact ih (of_map h)

/-- Settles O12: the answer is that of unstuffing, which fails in one way, and unstuffing is R87's
loop branch by branch. -/
theorem unstuffAnswersTheUnstuffedBytes : Obligations.UnstuffAnswersTheUnstuffedBytes := by
  unfold Obligations.UnstuffAnswersTheUnstuffedBytes
  refine ⟨fun s r hr => ⟨decode_request (op := .unstuff) (by decide) rfl hr, fun y hy => ?_,
    fun e he => ?_⟩, fun lone b r => ⟨rfl, unstuffBytes_pair lone _ r (.inl rfl),
    unstuffBytes_pair lone _ r (.inr rfl),
    fun hstart hesc => unstuffBytes_escOther lone b r ⟨hstart, hesc⟩, rfl, rfl,
    unstuffBytes_plain lone b r⟩⟩
  · rw [exec_unstuff s hr, hy, le16_eq_bytesOfCount]
    rfl
  · obtain rfl := eq_malformedFrame_of_unstuffBytes he
    rw [exec_unstuff s hr, he]
    rfl

/-- Settles O13: the answer is the stuffed frame, whose fields are R88's. -/
theorem encodeAnswersTheFrame : Obligations.EncodeAnswersTheFrame := by
  unfold Obligations.EncodeAnswersTheFrame
  intro s cmd p
  refine ⟨fun hp => ⟨?_, _, _, rfl, rfl, ?_⟩, fun hp => exec_encode_tooLong s cmd hp⟩
  · rw [decode_request (op := .encode) (hostOpOf_fillCmd (by decide) (by decide) cmd) rfl hp,
      HostOp.instr, cmdOf_wordOf]
  · rw [exec_encode s cmd hp, pre_eq_framePrefix, ← checksum_eq_checksumLoop, le16_eq_bytesOfCount]
    rfl

/-- Settles O15: the answer is that of Decode, with R130's codes. -/
theorem decodeAnswersTheResult : Obligations.DecodeAnswersTheResult := by
  unfold Obligations.DecodeAnswersTheResult
  intro s exp raw hraw
  refine ⟨?_, fun cmd p hok => ?_, fun e he => ⟨e.byte, ?_, by cases e <;> rfl⟩⟩
  · rw [decode_request (op := .decode) (hostOpOf_fillCmd (by decide) (by decide) exp) rfl hraw,
      HostOp.instr, cmdOf_wordOf]
  · rw [exec_decode s hraw, hok, le16_eq_bytesOfCount]
    rfl
  · rw [exec_decode s hraw, he]
    rfl

/-- An operation whose response is a function of the configuration gives one response for each. -/
theorem exists_response_of_cfg {i : Instr} (response : Config → List Byte)
    (h : ∀ s, exec i s = .next (s.respond (response s.cfg))) (cfg : Config) :
    ∃ r, ∀ s : State, s.cfg = cfg → exec i s = .next { s with resp := s.resp ++ [r] } :=
  ⟨response cfg, by rintro s rfl; exact h s⟩

/-- Settles O21: each operation's response is a function of the configuration. -/
theorem codecOperationsWriteNoState : Obligations.CodecOperationsWriteNoState := by
  unfold Obligations.CodecOperationsWriteNoState
  rintro i (⟨d, rfl⟩ | ⟨x, rfl⟩ | ⟨r, rfl⟩ | ⟨cmd, p, rfl⟩ | ⟨exp, raw, rfl⟩)
  · exact exists_response_of_cfg (fun cfg => if hostMaxData < d.length then [respTooLong]
      else respOk :: bytesOfU16 (checksum cfg d)) fun _ => rfl
  · exact exists_response_of_cfg (fun _ => if hostMaxData < x.length then [respTooLong]
      else respOk :: bytesOfCount (stuffBytes x).length ++ stuffBytes x) fun _ => rfl
  · exact exists_response_of_cfg (fun cfg => if hostMaxData < r.length then [respTooLong]
      else respOk :: unstuffResponse (unstuffBytes cfg.loneEsc r)) fun _ => rfl
  · exact exists_response_of_cfg (fun cfg => if maxPayload < p.length then [respTooLong]
      else respOk :: bytesOfCount (encodeFrame cfg cmd p).length ++ encodeFrame cfg cmd p)
      fun _ => rfl
  · exact exists_response_of_cfg (fun cfg => if hostMaxData < raw.length then [respTooLong]
      else respOk :: decodeResponse (decodeFrame cfg raw exp)) fun _ => rfl

/-! ## The token reader (log 6) -/

/-- What the reader answers in the end: the answer it has, or that of the checks on the frame it is
unstuffing. `State.loadWire` starts it at `decodeFrame`. -/
def Wire.answer (cfg : Config) (w : Wire) : DecodeResult :=
  match w.result with
  | some r => r
  | none =>
    match unstuffBytes cfg.loneEsc w.raw with
    | .error e => .error e
    | .ok f => checkFrame cfg w.exp (w.out ++ f)

/-- A bound on the moves the reader still needs: one for each raw byte and one for the checks. -/
def Wire.movesLeft (w : Wire) : Nat :=
  match w.result with
  | some _ => 0
  | none => w.raw.length + 1

/-- The reader comes nearer to the same answer. -/
structure Wire.Advances (cfg : Config) (w w' : Wire) : Prop where
  answer    : w'.answer cfg = w.answer cfg
  movesLeft : w'.movesLeft ≤ w.movesLeft - 1

theorem Wire.answer_of_result {cfg : Config} {w : Wire} {r : DecodeResult} (h : w.result = some r) :
    w.answer cfg = r := by simp [Wire.answer, h]

theorem Wire.answer_load (cfg : Config) (exp : Byte) (raw : List Byte) :
    Wire.answer cfg ⟨exp, raw, [], none⟩ = decodeFrame cfg raw exp := rfl

/-- An answer that is the one to come ends the reading. -/
theorem Wire.advances_of_result {cfg : Config} {w w' : Wire}
    (h : w'.result = some (w.answer cfg)) : w.Advances cfg w' where
  answer    := Wire.answer_of_result h
  movesLeft := by simp [Wire.movesLeft, h]

/-- A token that emits and consumes what Unstuff does keeps the answer. -/
theorem Wire.advances_emit {cfg : Config} {w : Wire} {b : Byte} {n : Nat}
    (hresult : w.result = none) (hraw : w.raw ≠ []) (hn : 1 ≤ n)
    (h : unstuffBytes cfg.loneEsc w.raw = (unstuffBytes cfg.loneEsc (w.raw.drop n)).map (b :: ·)) :
    w.Advances cfg ⟨w.exp, w.raw.drop n, w.out ++ [b], w.result⟩ where
  answer := by
    simp only [Wire.answer, hresult, h]
    cases unstuffBytes cfg.loneEsc (w.raw.drop n) <;> simp [Except.map]
  movesLeft := by
    have hlen := List.length_pos_iff.2 hraw
    simp only [Wire.movesLeft, hresult, List.length_drop]
    omega

/-- Every token but a lone escape emits one byte and consumes what Unstuff does (R68, R87). -/
theorem decodeToken_cases (lone : LoneEsc) {raw : List Byte} (hraw : raw ≠ []) :
    raw = [esc] ∨
    ∃ i b n, decode .wireToken raw = .ok i ∧ (∀ s, exec i s = .next (s.emitToken b n)) ∧ 1 ≤ n ∧
      unstuffBytes lone raw = (unstuffBytes lone (raw.drop n)).map (b :: ·) := by
  match raw with
  | [] => exact absurd rfl hraw
  | b :: rest =>
    by_cases hb : b = esc
    · subst hb
      match rest with
      | [] => exact .inl rfl
      | c :: rest =>
        by_cases hstart : c = start
        · subst hstart
          exact .inr ⟨.escStart, start, 2, rfl, fun _ => rfl, by decide,
            unstuffBytes_pair lone start rest (.inl rfl)⟩
        by_cases hesc : c = esc
        · subst hesc
          exact .inr ⟨.escEsc, esc, 2, rfl, fun _ => rfl, by decide,
            unstuffBytes_pair lone esc rest (.inr rfl)⟩
        · exact .inr ⟨.escOther c, esc, 1, by simp [decode, decodeToken, hstart, hesc],
            fun _ => rfl, by decide, unstuffBytes_escOther lone c rest ⟨hstart, hesc⟩⟩
    · refine .inr ⟨.byte b, b, 1, ?_, fun _ => rfl, by decide, unstuffBytes_plain lone b rest hb⟩
      cases rest <;> simp [decode, decodeToken, hb]

/-- The lone escape ends the reading or is a literal, as Unstuff has it. -/
theorem execEscLone_advances {s : State} (hresult : s.wire.result = none)
    (hraw : s.wire.raw = [esc]) :
    ∃ w, exec .escLone s = .next { s with wire := w } ∧ s.wire.Advances s.cfg w := by
  cases hlone : s.cfg.loneEsc with
  | malformed =>
    refine ⟨s.malformedToken.wire, by simp [exec, execEscLone, hlone, State.malformedToken],
      Wire.advances_of_result ?_⟩
    simp [Wire.answer, hresult, hraw, hlone, unstuffBytes]
  | literal =>
    refine ⟨(s.emitToken esc 1).wire, by simp [exec, execEscLone, hlone, State.emitToken],
      Wire.advances_emit hresult (by simp [hraw]) (by decide) ?_⟩
    rw [hraw, hlone]
    rfl

/-- The last two bytes of a sequence, and those before them. -/
theorem take_append_lastTwo {l : List Byte} (h : 2 ≤ l.length) :
    l.take (l.length - 2) ++ [l.getD (l.length - 2) 0#8, l.getD (l.length - 1) 0#8] = l := by
  have hdrop : l.drop (l.length - 2) = [l.getD (l.length - 2) 0#8, l.getD (l.length - 1) 0#8] := by
    have hnext : l.length - 2 + 1 = l.length - 1 := by omega
    have hend : l.length - 1 + 1 = l.length := by omega
    rw [List.drop_eq_getElem_cons (by omega), List.drop_eq_getElem_cons (by omega)]
    simp [hnext, hend, show 0 < l.length by omega]
  rw [← hdrop, List.take_append_drop]

/-- Unstuffed bytes that have a frame's fields are the encoding of that frame. -/
theorem encode_of_decodeFrameBytes {f : List Byte} {i : Instr} (h : decode .wireFrame f = .ok i) :
    encode i = f := by
  match f with
  | [] | [_] | [_, _] | [_, _, _] | [_, _, _, _] => cases h
  | s :: rtu :: l0 :: l1 :: cmd :: tail =>
    simp only [decode, decodeFrameBytes] at h
    split at h
    · cases h
    next hstart =>
      split at h
      · cases h
      next hshort =>
        cases h
        rw [not_not.1 hstart]
        simp only [encode, frameBytes, bytesOfU16, loByte_u16Of, hiByte_u16Of, List.append_assoc,
          take_append_lastTwo (Nat.not_lt.1 hshort)]
        rfl

/-- FRAME checks the bytes it is the encoding of. -/
theorem exec_of_decodeFrameBytes {f : List Byte} {i : Instr} (h : decode .wireFrame f = .ok i)
    (s : State) : exec i s = .next (s.checkWire f) := by
  have hf := decodeFrameBytes_format h
  rw [← encode_of_decodeFrameBytes h]
  cases i with
  | frame => rfl
  | _ => cases hf

/-- The reader's move after the last raw byte is the check of the frame it has unstuffed. -/
theorem fetchWire_checks {s : State} (hresult : s.wire.result = none) (hraw : s.wire.raw = []) :
    (fetchWire s).outcome = .next (s.checkWire s.wire.out) := by
  have htok : decode .wireToken s.wire.raw = .error .noToken := by rw [hraw]; rfl
  simp only [fetchWire, hresult, htok]
  cases hframe : decode .wireFrame s.wire.out with
  | ok i => exact exec_of_decodeFrameBytes hframe s
  | error => rfl

/-- Each move of the reader brings it nearer to the same answer, and changes nothing else. -/
theorem fetchWire_advances (s : State) :
    ∃ w, (fetchWire s).outcome = .next { s with wire := w } ∧ s.wire.Advances s.cfg w := by
  cases hresult : s.wire.result with
  | some r =>
    refine ⟨s.wire, by simp [fetchWire, hresult, Fetched.outcome], rfl, ?_⟩
    simp [Wire.movesLeft, hresult]
  | none =>
    by_cases hraw : s.wire.raw = []
    · refine ⟨_, fetchWire_checks hresult hraw, Wire.advances_of_result ?_⟩
      simp [Wire.answer, hresult, hraw]
    · obtain hlone | ⟨i, b, n, htok, hexec, hn, hunstuff⟩ := decodeToken_cases s.cfg.loneEsc hraw
      · have htok : decode .wireToken s.wire.raw = .ok .escLone := by rw [hlone]; rfl
        simpa [fetchWire, hresult, htok, Fetched.outcome] using execEscLone_advances hresult hlone
      · refine ⟨_, ?_, Wire.advances_emit hresult hraw hn hunstuff⟩
        simp [fetchWire, hresult, htok, Fetched.outcome, hexec, State.emitToken]

/-- Enough moves of the reader lead to its answer, and change nothing else. -/
theorem runs_wire {s : State} {k : Nat} {more : List Turn}
    (hturns : s.turns = List.replicate k .wire ++ more) (hk : s.wire.movesLeft ≤ k) :
    ∃ w, s.runs k = some { s with turns := more, wire := w } ∧
      w.result = some (s.wire.answer s.cfg) := by
  induction k generalizing s with
  | zero =>
    obtain rfl : s.turns = more := hturns
    refine ⟨s.wire, rfl, ?_⟩
    cases hresult : s.wire.result with
    | some r => simp [Wire.answer, hresult]
    | none => simp [Wire.movesLeft, hresult] at hk
  | succ k ih =>
    obtain ⟨w, hstep, hadv⟩ :=
      fetchWire_advances { s with turns := List.replicate k .wire ++ more }
    have hk' : s.wire.movesLeft - 1 ≤ k := Nat.sub_le_of_le_add hk
    obtain ⟨w', hruns, hresult⟩ :=
      ih (s := { s with turns := List.replicate k .wire ++ more, wire := w }) rfl
        (hadv.movesLeft.trans hk')
    refine ⟨w', ?_, hresult.trans (congrArg some hadv.answer)⟩
    rw [State.runs_succ ((step_eq_outcome_cons hturns).trans hstep), hruns]

/-- Settles O56: each token keeps what the reader will answer, and there is a move for each. -/
theorem tokenReaderIsDecode : Obligations.TokenReaderIsDecode := by
  unfold Obligations.TokenReaderIsDecode
  intro s exp raw more hturns
  have hload : step s = .next (State.loadWire
      { s with turns := List.replicate (raw.length + 1) .wire ++ more } exp raw) :=
    step_eq_outcome_cons hturns
  obtain ⟨w, hruns, hresult⟩ := runs_wire (k := raw.length + 1) (more := more)
    (s := State.loadWire { s with turns := List.replicate (raw.length + 1) .wire ++ more } exp raw)
    rfl (Nat.le_refl _)
  exact ⟨_, (State.runs_succ hload _).trans hruns,
    hresult.trans (congrArg some (Wire.answer_load s.cfg exp raw)), rfl⟩

end Sys2Proof.Machine

/-! # The scheduler

What ENQ, CLR, STAT and DEQ answer (41_scheduler.md R101 to R104), as equations of `exec` and of a
step whose move is listed, and from these: the hold of a full tier (R107), the priority law (R105),
and the barrier a CLR is (R106). -/

namespace Sys2Proof.Machine

open Claims

/-! ## Room in a tier (10_state.md R26, 41_scheduler.md R107) -/

theorem State.tierFull_iff (s : State) (p : Prio) :
    s.tierFull p = true ↔ s.cfg.queueDepth = some (s.tier p).length := by
  unfold State.tierFull
  cases s.cfg.queueDepth with
  | none => simp
  | some depth => rw [beq_iff_eq, Option.some_inj, eq_comm]

theorem State.tierFull_eq_false_iff (s : State) (p : Prio) :
    s.tierFull p = false ↔ s.cfg.queueDepth ≠ some (s.tier p).length := by
  rw [← Bool.not_eq_true, s.tierFull_iff]

/-- Unbounded tiers always have room. -/
theorem State.tierFull_unbounded {s : State} (h : s.cfg.queueDepth = none) (p : Prio) :
    s.tierFull p = false := by simp [State.tierFull, h]

/-- An emptied tier has room for one entry at least (R107). -/
theorem State.tierFull_clearQueues {s : State} {d : Nat} (hdepth : s.cfg.queueDepth = some d)
    (hd : 0 < d) (p : Prio) : s.clearQueues.tierFull p = false := by
  have hempty : s.clearQueues.tier p = [] := by cases p <;> rfl
  simp [State.tierFull_eq_false_iff, hempty, hdepth, hd.ne']

/-! ## The operations' answers (R101 to R104) -/

/-- ENQ of a payload over the limit. -/
theorem exec_enq_tooLong (s : State) (prio : Prio) (cmd : Byte) {p : List Byte}
    (hp : maxPayload < p.length) : exec (.enq prio cmd p) s = .next (s.respond [respTooLong]) := by
  rw [exec, execEnq, if_pos hp]

section
variable {s : State} {prio : Prio} (cmd : Byte) {p : List Byte} (hp : p.length ≤ maxPayload)
include hp

/-- ENQ of a payload within the limit into a full tier. -/
theorem exec_enq_full (hfull : s.tierFull prio = true) :
    exec (.enq prio cmd p) s = .next (s.park ⟨prio, cmd, p⟩) := by
  rw [exec, execEnq, if_neg (Nat.not_lt.2 hp), if_pos hfull]

/-- ENQ of a payload within the limit into a tier with room. -/
theorem exec_enq_room (hroom : s.tierFull prio = false) :
    exec (.enq prio cmd p) s = .next ((s.push ⟨cmd, p, prio, s.gen⟩).respond [respOk]) := by
  rw [exec, execEnq, if_neg (Nat.not_lt.2 hp), hroom, if_neg Bool.false_ne_true]

end

/-- STAT answers the status and changes nothing else. -/
theorem exec_stat {s : State} {r : List Byte} (h : statResponse s = r) :
    exec .stat s = .next { s with resp := s.resp ++ [r] } := h ▸ rfl

/-- DEQ in IDLE with a HIGH command queued. -/
theorem exec_deq_high {s : State} (hst : s.st = .idle) {e : Entry} {qh : List Entry}
    (hq : s.qh = e :: qh) : exec .deq s = .next (s.launch e qh s.ql) := by
  simp [exec, execDeq, hst, State.pop?, hq]

/-- DEQ in IDLE with LOW commands only. -/
theorem exec_deq_low {s : State} (hst : s.st = .idle) (hh : s.qh = []) {e : Entry} {ql : List Entry}
    (hl : s.ql = e :: ql) : exec .deq s = .next (s.launch e [] ql) := by
  simp [exec, execDeq, hst, State.pop?, hh, hl]

/-- DEQ with both tiers empty is held (log 9). -/
theorem exec_deq_held {s : State} (h : s.engineHeld) : exec .deq s = .next s := by
  obtain ⟨hst, hh, hl⟩ := h
  simp [exec, execDeq, hst, State.pop?, hh, hl]

/-- DEQ outside IDLE is not enabled (log 9). -/
theorem exec_deq_not_idle {s : State} (h : s.st ≠ .idle) : exec .deq s = .next s := by
  rw [exec, execDeq, if_neg h]

/-- ENQ as R101 spells it, the tier in field P and the command id in field C (R73, R77). -/
theorem decode_request_enq (prio : Prio) (cmd : Byte) {p : List Byte} (hp : p.length ≤ maxPayload) :
    decode .host (request 0x01#8 (prio.bit.setWidth 8) cmd 0#8 p) = .ok (.enq prio cmd p) := by
  have hop : hostOpOf (wordOf 0x01#8 (prio.bit.setWidth 8) 0#8 0#8) = some .enq := by
    cases prio <;> decide
  rw [decode_request (hostOpOf_fillCmd hop (by decide) cmd) rfl hp, HostOp.instr, prioOf_wordOf,
    cmdOf_wordOf]

/-- Settles O22: the request decodes to ENQ, and a tier is full exactly when it holds QUEUE_DEPTH
entries. -/
theorem enqPushesAtTheTail : Obligations.EnqPushesAtTheTail := by
  unfold Obligations.EnqPushesAtTheTail
  intro s cmd p
  exact ⟨fun hp => ⟨decode_request_enq .high cmd hp, decode_request_enq .low cmd hp⟩,
    fun hp hroom => exec_enq_room cmd hp ((s.tierFull_eq_false_iff .high).2 hroom),
    fun hp hroom => exec_enq_room cmd hp ((s.tierFull_eq_false_iff .low).2 hroom),
    fun hp prio => exec_enq_tooLong s prio cmd hp⟩

/-- Settles O24: CLR is `clearQueues`, and what the next generation is depends on GEN_W. -/
theorem clrEmptiesBothTiers : Obligations.ClrEmptiesBothTiers := by
  unfold Obligations.ClrEmptiesBothTiers
  intro s
  refine ⟨rfl, fun hw => ?_, fun w hw => ?_⟩
  · rw [← nextGen_infinite hw s.gen]
    rfl
  · rw [← nextGen_finite hw s.gen]
    rfl

/-- A count is reported modulo 2^16 (R104). -/
theorem bytesOfCount_mod (n : Nat) : bytesOfCount (n % 2 ^ 16) = bytesOfCount n := by
  have hmod : BitVec.ofNat 16 (n % 2 ^ 16) = BitVec.ofNat 16 n := BitVec.eq_of_toNat_eq (by simp)
  rw [bytesOfCount, hmod, bytesOfCount]

/-- The byte of S.ST is R21's code. -/
theorem stCode_eq_code (st : EngineState) : stCode st = st.code.setWidth 8 := by
  cases st <;> rfl

/-- The byte of S.LAST_ERR is R130's code. -/
theorem errCode_eq_code (e : ErrCode) : errCode e = e.code.setWidth 8 := by
  cases e <;> rfl

/-- Settles O25: the twelve bytes, with or without a command in flight. -/
theorem statAnswersTheStatus : Obligations.StatAnswersTheStatus := by
  unfold Obligations.StatAnswersTheStatus
  intro s
  refine ⟨rfl, ?_⟩
  simp only [le16_eq_bytesOfCount, bytesOfCount_mod, stCode_eq_code, errCode_eq_code]
  obtain hcur | ⟨e, hcur⟩ := s.cur.eq_none_or_eq_some
  · refine ⟨0#8, 0#8, by simp, by simp [hcur], ?_⟩
    exact exec_stat (by rw [statResponse, hcur]; rfl)
  · refine ⟨1#8, e.cmd, by simp [hcur], by simp [hcur], ?_⟩
    exact exec_stat (by rw [statResponse, hcur]; rfl)

/-- Settles O26: the head of HIGH, the head of LOW, the held step, and the step not enabled. -/
theorem deqTakesTheHighHeadFirst : Obligations.DeqTakesTheHighHeadFirst := by
  unfold Obligations.DeqTakesTheHighHeadFirst
  intro s
  refine ⟨rfl, fun hst e qh hq => exec_deq_high hst hq, fun hst hh e ql hl => ?_,
    exec_deq_held, exec_deq_not_idle⟩
  rw [exec_deq_low hst hh hl, ← hh, State.launch]

/-! ## Listed moves -/

/-- A listed request that is decoded runs its instruction. -/
theorem step_request {s : State} {bytes : List Byte} {more : List Turn} {i : Instr}
    (hturns : s.turns = .request bytes :: more) (hd : decode .host bytes = .ok i) :
    step s = exec i { s with turns := more } :=
  stepRunsTheDecodedRequest s bytes more i hturns hd

/-- A held producer's listed move runs its ENQ again (R107). -/
theorem step_retry {s : State} {k : Nat} {more : List Turn} {h : HeldEnq}
    (hturns : s.turns = .retry k :: more) (hk : s.waiting[k]? = some h) :
    step s = exec (.enq h.prio h.cmd h.payload) (State.unpark { s with turns := more } k) := by
  simp [step_eq_outcome_cons hturns, fetchTurn, fetchRetry, hk, Fetched.outcome]

/-- A held producer whose tier has room by now pushes its entry with the stamp of now (R107). -/
theorem step_retry_room {s : State} {k : Nat} {more : List Turn} {h : HeldEnq}
    (hturns : s.turns = .retry k :: more) (hk : s.waiting[k]? = some h)
    (hlen : h.payload.length ≤ maxPayload) (hroom : s.tierFull h.prio = false) :
    step s = .next ((State.push (State.unpark { s with turns := more } k)
      ⟨h.cmd, h.payload, h.prio, s.gen⟩).respond [respOk]) :=
  (step_retry hturns hk).trans (exec_enq_room h.cmd hlen hroom)

/-- The engine's listed move in IDLE with LOW commands only runs DEQ (42_retry_engine.md R110). -/
theorem step_engine_low {s : State} {more : List Turn} (hturns : s.turns = .engine :: more)
    (hst : s.st = .idle) (hh : s.qh = []) {e : Entry} {ql : List Entry} (hl : s.ql = e :: ql) :
    step s = .next (State.launch { s with turns := more } e [] ql) := by
  have hdeq : step s = exec .deq { s with turns := more } := by
    simp [step_eq_outcome_cons hturns, fetchTurn, fetchEngine_eq, hst, Fetched.outcome]
  exact hdeq.trans (exec_deq_low (s := { s with turns := more }) hst hh hl)

/-! ## The hold of a full tier (R107) -/

/-- Settles O23: the tier is full; after CLR it is empty and QUEUE_DEPTH is not 0, so the second try
pushes. -/
theorem fullTierHoldsEnq : Obligations.FullTierHoldsEnq := by
  unfold Obligations.FullTierHoldsEnq
  intro s prio cmd p d hp hdepth hlen hd hwaiting
  refine ⟨?_, fun clr more hclr hturns => ?_⟩
  · rw [exec_enq_full cmd hp ((s.tierFull_iff prio).2 (hlen.symm ▸ hdepth)), State.park, hwaiting]
    rfl
  · have hclear := step_request (s := { s with waiting := [⟨prio, cmd, p⟩] }) hturns hclr
    have hroom := State.tierFull_clearQueues hdepth hd prio
    refine ⟨_, (State.runs_succ hclear 1).trans
      (State.runs_succ (step_retry_room rfl rfl hp hroom) 0), ?_⟩
    cases prio <;> exact ⟨rfl, rfl, rfl, List.append_assoc ..⟩

/-! ## The priority law (R105) -/

/-- The listed move of a producer that asks for this ENQ. -/
def HeldEnq.turn (r : HeldEnq) : Turn := .request (encode (.enq r.prio r.cmd r.payload))

/-- The entry this ENQ pushes in a generation (R101). -/
def HeldEnq.entry (r : HeldEnq) (gen : Nat) : Entry := ⟨r.cmd, r.payload, r.prio, gen⟩

/-- The entries that these ENQs push into a tier in a generation, in their order. -/
def entriesFor (p : Prio) (gen : Nat) (rs : List HeldEnq) : List Entry :=
  (rs.filter fun r => r.prio = p).map (HeldEnq.entry · gen)

@[simp] theorem entriesFor_nil (p : Prio) (gen : Nat) : entriesFor p gen [] = [] := rfl

theorem entriesFor_cons (p : Prio) (gen : Nat) (r : HeldEnq) (rs : List HeldEnq) :
    entriesFor p gen (r :: rs) =
      if r.prio = p then r.entry gen :: entriesFor p gen rs else entriesFor p gen rs := by
  by_cases h : r.prio = p <;> simp [entriesFor, h]

/-- A step whose listed move is an ENQ within the limit into a tier with room. -/
theorem step_enq_room {s : State} {r : HeldEnq} {more : List Turn}
    (hturns : s.turns = r.turn :: more) (hlen : r.payload.length ≤ maxPayload)
    (hroom : s.tierFull r.prio = false) :
    step s = .next ((State.push { s with turns := more } (r.entry s.gen)).respond [respOk]) := by
  have hd : decode .host (encode (.enq r.prio r.cmd r.payload)) =
      .ok (.enq r.prio r.cmd r.payload) :=
    decodeUndoesEncode (.enq r.prio r.cmd r.payload) (decide_eq_true hlen)
  rw [step_request hturns hd]
  exact exec_enq_room r.cmd hlen hroom

/-- Listed ENQs into unbounded tiers: each tier gets its own, in their order. -/
theorem runs_enqs {s : State} {rs : List HeldEnq} {more : List Turn}
    (hturns : s.turns = rs.map HeldEnq.turn ++ more) (hdepth : s.cfg.queueDepth = none)
    (hlen : ∀ r ∈ rs, r.payload.length ≤ maxPayload) :
    ∃ resp, s.runs rs.length = some { s with
      turns := more, resp := resp,
      qh := s.qh ++ entriesFor .high s.gen rs, ql := s.ql ++ entriesFor .low s.gen rs } := by
  induction rs generalizing s with
  | nil =>
    obtain rfl : s.turns = more := hturns
    exact ⟨s.resp, by simp⟩
  | cons r rs ih =>
    have hstep := step_enq_room hturns (hlen r (by simp)) (State.tierFull_unbounded hdepth r.prio)
    obtain ⟨resp, hruns⟩ := ih (s := (State.push { s with turns := rs.map HeldEnq.turn ++ more }
      (r.entry s.gen)).respond [respOk]) (by simp) (by simpa using hdepth)
      fun x hx => hlen x (List.mem_cons_of_mem _ hx)
    refine ⟨resp, (State.runs_succ hstep _).trans (hruns.trans ?_)⟩
    obtain ⟨prio, cmd, p⟩ := r
    cases prio <;> simp [State.push, State.respond, entriesFor_cons, HeldEnq.entry]

/-- Settles O27: the four ENQs leave the second and the third command in HIGH and the first and the
fourth in LOW, and DEQ empties HIGH first; an ENQ leaves the command in flight. -/
theorem highDrainsFirst : Obligations.HighDrainsFirst := by
  unfold Obligations.HighDrainsFirst
  intro s c1 c2 c3 c4 p1 p2 p3 p4 more hh hl hdepth hst hp1 hp2 hp3 hp4
  refine ⟨fun hturns => ?_, fun hturns => ?_⟩
  · obtain ⟨resp, hruns⟩ := runs_enqs (more := more)
      (rs := [⟨.low, c1, p1⟩, ⟨.high, c2, p2⟩, ⟨.high, c3, p3⟩, ⟨.low, c4, p4⟩]) hturns hdepth
      (by simp [maxPayload, hp1, hp2, hp3, hp4])
    rw [hh, hl] at hruns
    have hqueued : s.runs 4 = some { s with
      turns := more, resp := resp,
      qh := [⟨c2, p2, .high, s.gen⟩, ⟨c3, p3, .high, s.gen⟩],
      ql := [⟨c1, p1, .low, s.gen⟩, ⟨c4, p4, .low, s.gen⟩] } := hruns
    exact ⟨_, _, _, _, _, hqueued, exec_deq_high (by exact hst) rfl, rfl,
      exec_deq_high rfl rfl, rfl, exec_deq_low rfl rfl rfl, rfl, exec_deq_low rfl rfl rfl, rfl⟩
  · have henq := step_enq_room (r := ⟨.low, c1, p1⟩) hturns hp1
      (State.tierFull_unbounded hdepth .low)
    refine ⟨_, (State.runs_succ henq 2).trans
      ((State.runs_succ (step_engine_low (e := ⟨c1, p1, .low, s.gen⟩) (ql := []) rfl
          ?idle ?noHigh ?lowHead) 1).trans
        (State.runs_succ (step_enq_room (r := ⟨.high, c2, p2⟩) rfl hp2
          (State.tierFull_unbounded ?depth .high)) 0)), rfl, rfl, rfl⟩
    case idle => exact hst
    case noHigh => exact hh
    case lowHead => exact congrArg (· ++ _) hl
    case depth => exact hdepth

/-! ## The barrier (R106) -/

/-- An entry queued after a step was queued before it, or carries the current stamp
(10_state.md R27). -/
theorem Effect.queued {τ : Turn} {s t : State} (h : Effect τ s t) {e : Entry}
    (he : e ∈ t.qh ++ t.ql) : e ∈ s.qh ++ s.ql ∨ e.gen = s.gen := by
  have of_push {x : Entry} (hx : x.gen = s.gen) (hmem : e = x ∨ e ∈ s.qh ++ s.ql) :
      e ∈ s.qh ++ s.ql ∨ e.gen = s.gen := by
    obtain rfl | hmem := hmem
    · exact .inr hx
    · exact .inl hmem
  obtain ⟨hh, hl⟩ | ⟨x, -, hx, hh, hl⟩ | ⟨x, -, hx, hh, hl⟩ | ⟨x, -, hh, hl, -⟩ |
    ⟨x, -, hh, hnone, hl, -⟩ | ⟨hh, hl⟩ := h.tiers
  · exact .inl (by rwa [hh, hl] at he)
  · exact of_push hx (by simpa [hh, hl, or_left_comm] using he)
  · exact of_push hx (by simpa [hh, hl, or_comm, or_left_comm] using he)
  · exact .inl (by rw [hh, ← hl]; exact List.mem_cons_of_mem x he)
  · exact .inl (by rw [hh, hl]; exact List.mem_cons_of_mem x (by rwa [hnone] at he))
  · simp [hh, hl] at he

/-- A command put in flight was queued (R103). -/
theorem Effect.cur_mem {τ : Turn} {s t : State} (h : Effect τ s t) {e : Entry}
    (he : t.cur = some e) : t.cur = s.cur ∨ e ∈ s.qh ++ s.ql := by
  cases h with
  | launch x qh ql _ _ hpop =>
    obtain rfl : x = e := Option.some_inj.1 he
    obtain ⟨e', rest, hq, hp⟩ | ⟨e', rest, -, hl, hp⟩ | ⟨-, -, hp⟩ := s.pop?_cases <;>
      cases hp.symm.trans hpop
    · exact .inr (by simp [hq])
    · exact .inr (by simp [hl])
  | reset | complete | resume => cases he
  | _ => exact .inl (by simp)

/-- Settles O29: what is queued or put in flight was queued before, or is stamped with S.GEN. -/
theorem clearIsABarrier : Obligations.ClearIsABarrier := by
  unfold Obligations.ClearIsABarrier
  refine ⟨?_, fun g s t _ hg hqueued hstep _ => ?_⟩
  · rintro s _ ⟨⟩
    exact ⟨rfl, rfl⟩
  · obtain ⟨waiting, heff⟩ := step_effect hstep
    have hold := fun e => heff.queued (e := e)
    have hcur := fun e => heff.cur_mem (e := e)
    simp only [State.didTurn_qh, State.didTurn_ql, State.didTurn_gen, State.didTurn_cur]
      at hold hcur
    refine ⟨fun e he => ?_, fun e he hne => hqueued e ((hcur e he).resolve_left hne)⟩
    obtain hmem | hgen := hold e he
    · exact hqueued e hmem
    · exact hgen ▸ hg

end Sys2Proof.Machine

/-! # The retry engine

What WRITE, RECV, COMPLETE and RESUME answer (42_retry_engine.md R110 to R121), as equations of
`exec` and of a step whose move is the engine's, and from these the transitions of S.ST (R110), what
follows a lost handle (R120) and the end of a run (R126); then what the moves of the other agents are
to an engine at work, and what an attempt is, and from these the retry-cap law (R122) and the success
law (R123). -/

namespace Sys2Proof.Machine

open Claims

/-! ## Failure accounting (R114, R115, R127) -/

/-- Below the cap a failed attempt is counted, recorded and made again (R114). -/
theorem State.failAttempt_retry {s : State} (h : s.failCnt + 1 < 10) (e : Entry) (err : ErrCode) :
    s.failAttempt e err =
      { s with failCnt := s.failCnt + 1, lastErr := err, st := .writing } := by
  obtain ⟨-, heq⟩ | ⟨hcap, -⟩ := s.failAttempt_cases e err
  · exact heq
  · exact absurd hcap (Nat.not_le.2 h)

/-- The PCF for the command `e` that a failed attempt with this code would emit (R115). -/
def State.pcf (s : State) (e : Entry) (err : ErrCode) : Pcf :=
  ⟨e.gen, e.cmd, e.payload, err, s.diagSample⟩

/-- At the cap a failed attempt is counted and recorded, DIAG_IN is sampled and PCF is emitted
(R114, R115). -/
theorem State.failAttempt_exhaust {s : State} (h : 10 ≤ s.failCnt + 1) (e : Entry) (err : ErrCode) :
    s.failAttempt e err =
      { s with failCnt := s.failCnt + 1, lastErr := err, st := .failed,
               elog := s.elog ++ [s.pcf e err], diagIn := s.diagIn.tail,
               draws := s.draws + 1 } := by
  obtain ⟨hlt, -⟩ | ⟨-, heq⟩ := s.failAttempt_cases e err
  · exact absurd h (Nat.not_le.2 hlt)
  · exact heq

/-- A failed attempt leads back to WRITING below the cap, and to FAILED at it (R114). -/
theorem State.failAttempt_st (s : State) (e : Entry) (err : ErrCode) :
    (s.failAttempt e err).st = if s.failCnt + 1 < 10 then .writing else .failed := by
  by_cases h : s.failCnt + 1 < 10
  · rw [State.failAttempt_retry h, if_pos h]
  · rw [State.failAttempt_exhaust (Nat.le_of_not_lt h), if_neg h]

/-- What a failed attempt with this code appends to ELOG. -/
def State.failurePcfs (s : State) (e : Entry) (err : ErrCode) : List Pcf :=
  if s.failCnt + 1 < 10 then [] else [s.pcf e err]

/-- Settles O37: what failure accounting does turns on the counter alone. -/
theorem failureKindsCountAlike : Obligations.FailureKindsCountAlike := by
  unfold Obligations.FailureKindsCountAlike
  intro s e err err'
  refine ⟨s.failAttempt_failCnt e err, fun h => ?_, fun h => ?_, s.failurePcfs e, ?_⟩
  · rw [State.failAttempt_retry h]
  · rw [State.failAttempt_exhaust h]
  · by_cases h : s.failCnt + 1 < 10
    · simp [State.failAttempt_retry h, State.failurePcfs, h]
    · simp [State.failAttempt_exhaust (Nat.le_of_not_lt h), State.failurePcfs, State.pcf, h]

/-- The value a sample of DIAG_IN gives: the one listed first, else the free one (log 3). -/
theorem State.diagSample_eq {s : State} {d : Diag}
    (hfree : s.diagIn = [] → d = Config.freeDiag s.draws)
    (hlisted : ∀ x rest, s.diagIn = x :: rest → d = x) : s.diagSample = d := by
  unfold State.diagSample
  cases h : s.diagIn with
  | nil => exact (hfree h).symm
  | cons x rest => exact (hlisted x rest h).symm

/-! ## The steps of the engine -/

/-- WRITE in WRITING with a command in flight (R112). -/
theorem exec_write {s : State} (hst : s.st = .writing) {e : Entry} (hcur : s.cur = some e) :
    exec .write s = .next (afterWrite e s.txAnswer s.didWrite) := by
  simp [exec, execWrite, hst, hcur]

/-- RECV in AWAIT with a command in flight (R113). -/
theorem exec_recv {s : State} (hst : s.st = .await) {e : Entry} (hcur : s.cur = some e) :
    exec .recv s = .next (afterRead e s.rxAnswer s.didRead) := by
  simp [exec, execRecv, hst, hcur]

/-- COMPLETE in SUCCESS (R116). -/
theorem exec_complete {s : State} (hst : s.st = .success) : exec .complete s = .next s.release := by
  rw [exec, execComplete, if_pos hst]

/-- RESUME in FAILED (R117). -/
theorem exec_resume {s : State} (hst : s.st = .failed) : exec .resume s = .next s.resumeDrain := by
  rw [exec, execResume, if_pos hst]

/-- The code RECV counts for a read's answer to the command `cmd`, or none where the attempt does
not fail (R113). -/
def readError (cfg : Config) (cmd : Byte) : RxAnswer → Option ErrCode
  | .lost => none
  | .exc => some .transportException
  | .bytes [] => some .readTimeout
  | .bytes (b :: bs) =>
    match decodeFrame cfg (b :: bs) cmd with
    | .error err => some err.toErr
    | .ok _ _ => none

/-- A response whose decode fails is counted with the code of the frame error. -/
theorem readError_of_decode_error {cfg : Config} {cmd : Byte} {b : List Byte} {err : FrameError}
    (hb : b ≠ []) (hd : decodeFrame cfg b cmd = .error err) :
    readError cfg cmd (.bytes b) = some err.toErr := by
  cases b with
  | nil => exact absurd rfl hb
  | cons b bs => simp [readError, hd]

/-- A read that fails is accounted with its code (R113, R114). -/
theorem afterRead_of_readError {s : State} {e : Entry} {a : RxAnswer} {err : ErrCode}
    (h : readError s.cfg e.cmd a = some err) : afterRead e a s = s.failAttempt e err := by
  match a with
  | .lost => cases h
  | .exc | .bytes [] => cases h; rfl
  | .bytes (b :: bs) =>
    simp only [readError] at h
    cases hd : decodeFrame s.cfg (b :: bs) e.cmd with
    | ok cmd p => simp [hd] at h
    | error fe =>
      obtain rfl : fe.toErr = err := by simpa [hd] using h
      simp [afterRead, afterDecode, hd]

/-- A response that decodes is dispatched (R113, R118). -/
theorem afterRead_of_decode_ok {s : State} {e : Entry} {b p : List Byte} {cmd : Byte} (hb : b ≠ [])
    (hd : decodeFrame s.cfg b e.cmd = .ok cmd p) :
    afterRead e (.bytes b) s = s.succeed e cmd p := by
  cases b with
  | nil => exact absurd rfl hb
  | cons b bs => simp [afterRead, afterDecode, hd]

/-- Settles O31: WRITE makes the call, and Ok is awaited. -/
theorem writeAwaitsTheResponse : Obligations.WriteAwaitsTheResponse := by
  unfold Obligations.WriteAwaitsTheResponse
  refine ⟨rfl, fun s e hst hcur htx => ?_⟩
  rw [exec_write hst hcur, htx]
  rfl

/-- Settles O32: WRITE makes the call, and Exc is accounted below the cap or at it. -/
theorem writeExceptionIsAccounted : Obligations.WriteExceptionIsAccounted := by
  unfold Obligations.WriteExceptionIsAccounted
  intro s e hst hcur htx
  have hexec : exec .write s = .next (s.didWrite.failAttempt e .transportException) := by
    rw [exec_write hst hcur, htx]
    rfl
  refine ⟨fun hlt => ?_, fun hcap d hfree hlisted => ?_⟩
  · rw [hexec, State.failAttempt_retry (s := s.didWrite) hlt, ← hst]
    rfl
  · have hd : s.didWrite.diagSample = d := State.diagSample_eq hfree hlisted
    rw [hexec, State.failAttempt_exhaust (s := s.didWrite) hcap.ge, State.pcf, hd, ← hcap]
    rfl

/-- Settles O33: RECV makes the call, and a response that decodes is dispatched. -/
theorem recvDispatchesADecodedResponse : Obligations.RecvDispatchesADecodedResponse := by
  unfold Obligations.RecvDispatchesADecodedResponse
  refine ⟨rfl, fun s e b cmd p hst hcur hrx hb hd => ?_⟩
  rw [exec_recv hst hcur, hrx, afterRead_of_decode_ok (s := s.didRead) hb hd]
  rfl

/-- Settles O34: RECV makes the call, and each kind of failure is accounted with its code. -/
theorem recvFailureIsAccounted : Obligations.RecvFailureIsAccounted := by
  unfold Obligations.RecvFailureIsAccounted
  intro s e err hst hcur hkind
  have herr : readError s.cfg e.cmd s.rxAnswer = some err := by
    obtain ⟨hrx, rfl⟩ | ⟨hrx, rfl⟩ | ⟨b, fe, hrx, hb, hd, rfl⟩ := hkind <;> rw [hrx]
    · rfl
    · rfl
    · exact readError_of_decode_error hb hd
  have hexec : exec .recv s = .next (s.didRead.failAttempt e err) := by
    rw [exec_recv hst hcur, afterRead_of_readError (s := s.didRead) herr]
  refine ⟨fun hlt => ?_, fun hcap d hfree hlisted => ?_⟩
  · rw [hexec, State.failAttempt_retry (s := s.didRead) hlt]
    rfl
  · have hd : s.didRead.diagSample = d := State.diagSample_eq hfree hlisted
    rw [hexec, State.failAttempt_exhaust (s := s.didRead) hcap.ge, State.pcf, hd, ← hcap]
    rfl

/-- Settles O36: the answer is cut to RX_MAX. -/
theorem readsAreBoundedByRxMax : Obligations.ReadsAreBoundedByRxMax := by
  unfold Obligations.ReadsAreBoundedByRxMax
  have clipped {max : Nat} {a : RxAnswer} {b : List Byte} (h : clipRx max a = .bytes b) :
      b.length ≤ max := by
    cases a with
    | bytes x => cases h; exact List.length_take_le max x
    | exc | lost => cases h
  exact fun s b h => clipped h

/-- Settles O38: COMPLETE in SUCCESS is the release. -/
theorem completeReleasesTheCommand : Obligations.CompleteReleasesTheCommand := by
  unfold Obligations.CompleteReleasesTheCommand
  exact ⟨rfl, fun s hst => exec_complete hst⟩

/-- Settles O39: RESUME in FAILED is the return from exhaustion. -/
theorem resumeDiscardsTheCommand : Obligations.ResumeDiscardsTheCommand := by
  unfold Obligations.ResumeDiscardsTheCommand
  exact ⟨rfl, fun s hst => exec_resume hst⟩

/-- Settles O40: RST is `resetBlock` and its answer, and reset holds the same values. -/
theorem rstResetsTheBlock : Obligations.RstResetsTheBlock := by
  unfold Obligations.RstResetsTheBlock
  exact fun s => ⟨rfl, rfl, rfl⟩

/-- Settles O41: each step asks for its state first. -/
theorem stepsNotEnabledChangeNothing : Obligations.StepsNotEnabledChangeNothing := by
  unfold Obligations.StepsNotEnabledChangeNothing
  refine fun s => ⟨fun h => ?_, fun h => ?_, fun h => ?_, fun h => ?_⟩
  · rw [exec, execWrite, if_neg h]
  · rw [exec, execRecv, if_neg h]
  · rw [exec, execComplete, if_neg h]
  · rw [exec, execResume, if_neg h]

/-! ## The moves of the agents (R110, R119) -/

/-- The engine's move runs the step its state enables (R110). -/
theorem step_engine {s : State} (h : s.nextTurn = .engine) :
    step s = (fetchEngine s.didTurn).outcome := by
  rw [step_eq_outcome, fetch, h, fetchTurn]

/-- A request for RST resets the block from any state (R119). -/
theorem step_rst {s : State} {bytes : List Byte} (h : s.nextTurn = .request bytes)
    (hd : decode .host bytes = .ok .rst) :
    step s = .next (s.didTurn.resetBlock.respond [respOk]) := by
  rw [step_eq_outcome, fetch, h, fetchTurn, fetchRequest, hd]
  rfl

/-- A move issues RST if it is a request that decodes to it. -/
theorem asksRst_iff {τ : Turn} :
    τ.asksRst = true ↔ ∃ bytes, τ = .request bytes ∧ decode .host bytes = .ok .rst := by
  cases τ <;> simp [Turn.asksRst]

/-- A move of another agent resets the block or leaves the engine's registers as they are. -/
theorem step_other_cases {s t : State} (h : step s = .next t) (he : s.nextTurn ≠ .engine) :
    (t.st = .idle ∧ ∃ bytes, s.nextTurn = .request bytes ∧ decode .host bytes = .ok .rst) ∨
    (t.st = s.st ∧ t.cur = s.cur ∧ t.frame = s.frame ∧ t.failCnt = s.failCnt ∧
      t.lastErr = s.lastErr) := by
  cases hr : s.nextTurn.asksRst with
  | true =>
    obtain ⟨bytes, hτ, hd⟩ := asksRst_iff.1 hr
    cases (step_rst hτ hd).symm.trans h
    exact .inl ⟨rfl, bytes, hτ, hd⟩
  | false =>
    obtain ⟨_, _, _, _, _, _, hstep⟩ := step_other s he hr
    cases hstep.symm.trans h
    exact .inr (by simp)

/-- The engine's move in HALTED is only used up (log 9). -/
theorem step_engine_halted {s : State} (h : s.nextTurn = .engine) (hst : s.st = .halted) :
    step s = .next s.didTurn := by
  simp [step_engine h, fetchEngine_eq, hst, Fetched.outcome]

/-- Settles O7: each state's own step, at the state with the listed move used up. -/
theorem stepRunsTheEnabledEngineStep : Obligations.StepRunsTheEnabledEngineStep := by
  unfold Obligations.StepRunsTheEnabledEngineStep
  intro s more hturns
  obtain ⟨hturn, hdid⟩ := s.nextTurn_cons .engine more hturns
  rw [step_engine hturn, fetchEngine_eq, hdid]
  refine ⟨fun hst => ?_, fun hst => ?_, fun hst => ?_, fun hst => ?_, fun hst => ?_,
    fun hst => ?_⟩ <;> simp only [hst] <;> rfl

/-- Settles O35: Lost halts after the call; then the engine's move does nothing, and another agent's
keeps the registers or is RST. -/
theorem lostHandleHaltsUntilRst : Obligations.LostHandleHaltsUntilRst := by
  unfold Obligations.LostHandleHaltsUntilRst
  refine ⟨fun s e hcur => ⟨fun hst htx => ?_, fun hst hrx => ?_⟩, fun s t hst h => ?_⟩
  · rw [exec_write hst hcur, htx]
    rfl
  · rw [exec_recv hst hcur, hrx]
    rfl
  · have hengine : s.nextTurn = .engine → t = s.didTurn := fun hτ =>
      Host.Outcome.next.inj (h.symm.trans (step_engine_halted hτ hst))
    refine ⟨hengine, ?_⟩
    by_cases hτ : s.nextTurn = .engine
    · simp [hengine hτ, hst]
    · obtain hrst | hkept := step_other_cases h hτ
      · exact .inr hrst
      · exact .inl (hst ▸ hkept)

/-! ## The transitions of S.ST (R110) -/

section
variable {s t : State} (h : step s = .next t) (hτ : s.nextTurn = .engine)
include h hτ

/-- The engine's move in WRITING is a write for the command in flight. -/
theorem step_engine_writing (hst : s.st = .writing) :
    ∃ e, s.cur = some e ∧ t = afterWrite e s.didTurn.txAnswer s.didTurn.didWrite := by
  rw [step_engine hτ, fetchEngine_eq, s.didTurn_st, hst] at h
  cases hcur : s.cur with
  | none => simp [Fetched.outcome, exec, execWrite, hst, hcur] at h
  | some e =>
    have hexec := exec_write (s := s.didTurn) (by simpa using hst) (by simpa using hcur)
    exact ⟨e, rfl, Host.Outcome.next.inj (h.symm.trans hexec)⟩

/-- The engine's move in AWAIT is a read for the command in flight. -/
theorem step_engine_await (hst : s.st = .await) :
    ∃ e, s.cur = some e ∧ t = afterRead e s.didTurn.rxAnswer s.didTurn.didRead := by
  rw [step_engine hτ, fetchEngine_eq, s.didTurn_st, hst] at h
  cases hcur : s.cur with
  | none => simp [Fetched.outcome, exec, execRecv, hst, hcur] at h
  | some e =>
    have hexec := exec_recv (s := s.didTurn) (by simpa using hst) (by simpa using hcur)
    exact ⟨e, rfl, Host.Outcome.next.inj (h.symm.trans hexec)⟩

/-- From IDLE the engine's move leads to WRITING where a command is queued (R103). -/
theorem step_engine_idle_st (hst : s.st = .idle) :
    t.st = if s.qh ++ s.ql = [] then .idle else .writing := by
  have hdeq : exec .deq s.didTurn = .next t := by
    rw [← h, step_engine hτ, fetchEngine_eq, s.didTurn_st, hst]
    rfl
  have hidle : s.didTurn.st = .idle := s.didTurn_st.trans hst
  cases hh : s.qh with
  | cons e qh =>
    cases (exec_deq_high hidle (s.didTurn_qh.trans hh)).symm.trans hdeq
    simp
  | nil =>
    cases hl : s.ql with
    | cons e ql =>
      cases (exec_deq_low hidle (s.didTurn_qh.trans hh) (s.didTurn_ql.trans hl)).symm.trans hdeq
      simp
    | nil =>
      cases (exec_deq_held ⟨hidle, s.didTurn_qh.trans hh, s.didTurn_ql.trans hl⟩).symm.trans hdeq
      simp [hst]

/-- From SUCCESS and FAILED the engine's move leads to IDLE (R116, R117). -/
theorem step_engine_release_st (hst : s.st = .success ∨ s.st = .failed) : t.st = .idle := by
  rw [step_engine hτ, fetchEngine_eq, s.didTurn_st] at h
  obtain hst | hst := hst <;> rw [hst] at h
  · cases (exec_complete (s.didTurn_st.trans hst)).symm.trans h
    rfl
  · cases (exec_resume (s.didTurn_st.trans hst)).symm.trans h
    rfl

end

/-- Settles O48: the answer of the transport decides where a write and a read lead, and the moves of
the other agents leave S.ST as it is or reset it. -/
theorem transitionsOfTheEngineState : Obligations.TransitionsOfTheEngineState := by
  unfold Obligations.TransitionsOfTheEngineState
  rintro s t h retry rfl
  refine ⟨fun hτ => ⟨?_, step_engine_idle_st h hτ, fun hst => ?_, fun hst e hcur => ?_,
    fun hst => step_engine_release_st h hτ (.inl hst),
    fun hst => step_engine_release_st h hτ (.inr hst), fun hst => ?_⟩, fun bytes hτ hd => ?_,
    fun hτ => ?_⟩
  · rw [step_engine hτ, fetchEngine_eq, s.didTurn_st]
    cases s.st <;> rfl
  · obtain ⟨e, -, rfl⟩ := step_engine_writing h hτ hst
    refine ⟨fun htx => ?_, fun htx => ?_, fun htx => ?_⟩ <;>
      simp [htx, afterWrite, State.failAttempt_st]
  · obtain ⟨e', hcur', rfl⟩ := step_engine_await h hτ hst
    obtain rfl : e' = e := Option.some_inj.1 (hcur'.symm.trans hcur)
    have hretry {a : RxAnswer} {err : ErrCode} (ha : s.didTurn.rxAnswer = a)
        (herr : readError s.cfg e'.cmd a = some err) :
        (afterRead e' s.didTurn.rxAnswer s.didTurn.didRead).st =
          if s.failCnt + 1 < 10 then .writing else .failed := by
      rw [ha, afterRead_of_readError (by simpa using herr)]
      simp [State.failAttempt_st]
    refine ⟨?_, fun b err hrx hb hd => hretry hrx (readError_of_decode_error hb hd),
      fun b cmd p hrx hb hd => ?_, fun hrx => ?_⟩
    · rintro (hrx | hrx)
      · exact hretry hrx rfl
      · exact hretry hrx rfl
    · rw [hrx, afterRead_of_decode_ok hb (by simpa using hd)]
      rfl
    · rw [hrx]
      rfl
  · cases (step_engine_halted hτ hst).symm.trans h
    simp [hst]
  · cases (step_rst hτ hd).symm.trans h
    rfl
  · obtain ⟨-, hrst⟩ | ⟨hst, -⟩ := step_other_cases h hτ
    · exact .inr hrst
    · exact .inl hst

/-! ## The end of a run (R126) -/

/-- What every step by an admitted move keeps, a run by admitted moves keeps. -/
theorem State.runs_keep {I : State → Prop} {admitted : Turn → Prop}
    (hstep : ∀ u, I u → admitted u.nextTurn → ∃ v, step u = .next v ∧ I v) {s : State} {k : Nat}
    (hs : I s) (hmoves : ∀ τ ∈ s.moves k, admitted τ) : ∃ t, s.runs k = some t ∧ I t := by
  induction k generalizing s with
  | zero => exact ⟨s, rfl, hs⟩
  | succ k ih =>
    obtain ⟨v, hv, hI⟩ := hstep s hs (hmoves _ (s.nextTurn_mem_moves k))
    rw [State.moves_succ hv, List.forall_mem_cons] at hmoves
    rw [State.runs_succ hv]
    exact ih hI hmoves.2

/-- Using up a move touches the schedule only. -/
theorem State.didTurn_eq (s : State) :
    s.didTurn = { s with turns := s.didTurn.turns, draws := s.didTurn.draws } := by
  unfold State.didTurn
  split <;> rfl

/-- A state that differs from `s` in the schedule and the token reader only. -/
def State.StillBut (s u : State) : Prop :=
  ∃ turns draws wire, u = { s with turns := turns, draws := draws, wire := wire }

/-- A state that differs from `s` in the schedule, the token reader and what the producers'
operations write only. -/
def State.HaltedBut (s u : State) : Prop :=
  ∃ turns draws wire qh ql gen resp waiting,
    u = { s with turns := turns, draws := draws, wire := wire, qh := qh, ql := ql, gen := gen,
                 resp := resp, waiting := waiting }

/-- A held engine's move is only used up (log 9). -/
theorem step_engine_held {s : State} (h : s.nextTurn = .engine) (hheld : s.engineHeld) :
    step s = .next s.didTurn := by
  obtain ⟨hst, hh, hl⟩ := hheld
  have hdeq : step s = exec .deq s.didTurn := by
    simp [step_engine h, fetchEngine_eq, hst, Fetched.outcome]
  exact hdeq.trans (exec_deq_held
    ⟨s.didTurn_st.trans hst, s.didTurn_qh.trans hh, s.didTurn_ql.trans hl⟩)

/-- With the engine held in DEQ, no producer held and no request, a step touches the token reader
only. -/
theorem step_held {s : State} (h : s.engineHeld) (hw : s.waiting = [])
    (hr : s.nextTurn.isRequest = false) : ∃ w, step s = .next { s.didTurn with wire := w } := by
  cases hτ : s.nextTurn with
  | request bytes => simp [hτ, Turn.isRequest] at hr
  | engine => exact ⟨s.didTurn.wire, step_engine_held hτ h⟩
  | retry k =>
    refine ⟨s.didTurn.wire, ?_⟩
    have hsettle : fetchTurn (.retry k) s.didTurn = .settle s.didTurn := by
      simp [fetchTurn, fetchRetry, hw]
    rw [step_eq_outcome, fetch, hτ, hsettle]
    rfl
  | load exp raw =>
    rw [step_eq_outcome, fetch, hτ]
    exact ⟨_, rfl⟩
  | wire =>
    rw [step_eq_outcome, fetch, hτ]
    obtain ⟨w, hstep, -⟩ := fetchWire_advances s.didTurn
    exact ⟨w, hstep⟩

/-- With the engine halted and no request for RST, a step touches what the producers' operations
write and the token reader only. -/
theorem step_halted {s : State} (h : s.engineHalted) (hr : s.nextTurn.asksRst = false) :
    ∃ qh ql gen resp waiting wire,
      step s = .next { s.didTurn with qh := qh, ql := ql, gen := gen, resp := resp,
                                      waiting := waiting, wire := wire } := by
  by_cases hτ : s.nextTurn = .engine
  · exact ⟨_, _, _, _, _, _, step_engine_halted hτ h⟩
  · exact step_other s hτ hr

theorem State.StillBut.step {s u : State} (h : s.StillBut u) (hheld : s.engineHeld)
    (hw : s.waiting = []) (hr : u.nextTurn.isRequest = false) :
    ∃ v, step u = .next v ∧ s.StillBut v := by
  obtain ⟨turns, draws, wire, rfl⟩ := h
  obtain ⟨w, hstep⟩ := step_held (by exact hheld) (by exact hw) hr
  rw [State.didTurn_eq] at hstep
  exact ⟨_, hstep, _, _, w, rfl⟩

theorem State.HaltedBut.step {s u : State} (h : s.HaltedBut u) (hhalted : s.engineHalted)
    (hr : u.nextTurn.asksRst = false) : ∃ v, step u = .next v ∧ s.HaltedBut v := by
  obtain ⟨turns, draws, wire, qh, ql, gen, resp, waiting, rfl⟩ := h
  obtain ⟨_, _, _, _, _, _, hstep⟩ := step_halted (by exact hhalted) hr
  rw [State.didTurn_eq] at hstep
  exact ⟨_, hstep, _, _, _, _, _, _, _, _, rfl⟩

/-- The engine's move, where it is neither held nor halted, enters another state or calls the
transport. -/
theorem step_engine_active {s t : State} (h : step s = .next t) (hτ : s.nextTurn = .engine)
    (hheld : ¬ s.engineHeld) (hhalted : ¬ s.engineHalted) : t.st ≠ s.st ∨ t.link ≠ s.link := by
  cases hst : s.st with
  | idle =>
    have hqueued : s.qh ++ s.ql ≠ [] := fun h => hheld ⟨hst, List.append_eq_nil_iff.1 h⟩
    exact .inl (by simp [step_engine_idle_st h hτ hst, hqueued])
  | writing =>
    obtain ⟨e, -, rfl⟩ := step_engine_writing h hτ hst
    exact .inr (by simp)
  | await =>
    obtain ⟨e, -, rfl⟩ := step_engine_await h hτ hst
    exact .inr (by simp)
  | success => exact .inl (by simp [step_engine_release_st h hτ (.inl hst)])
  | failed => exact .inl (by simp [step_engine_release_st h hτ (.inr hst)])
  | halted => exact absurd hst hhalted

/-- Settles O58: a step keeps all but the named fields, so a run does; an engine neither held nor
halted moves on or calls the transport. -/
theorem quiescentRunsStandStill : Obligations.QuiescentRunsStandStill := by
  unfold Obligations.QuiescentRunsStandStill
  refine ⟨fun s k ⟨hheld, hw, hmoves⟩ => ?_, fun s k ⟨hhalted, hmoves⟩ => ?_,
    fun s more hturns => ?_⟩
  · obtain ⟨t, hruns, turns, draws, wire, rfl⟩ :=
      State.runs_keep (fun u (hu : s.StillBut u) hr => hu.step hheld hw hr) ⟨_, _, _, rfl⟩ hmoves
    exact ⟨_, hruns, rfl⟩
  · obtain ⟨t, hruns, turns, draws, wire, qh, ql, gen, resp, waiting, rfl⟩ :=
      State.runs_keep (fun u (hu : s.HaltedBut u) hr => hu.step hhalted hr)
        ⟨_, _, _, _, _, _, _, _, rfl⟩ hmoves
    exact ⟨_, hruns, hhalted, rfl⟩
  · obtain ⟨hτ, hdid⟩ := s.nextTurn_cons .engine more hturns
    rw [← hdid]
    refine ⟨fun h => ?_, ?_⟩
    · by_contra hactive
      obtain ⟨hheld, hhalted⟩ := not_or.1 hactive
      simpa using step_engine_active h hτ hheld hhalted
    · rintro (hheld | hhalted)
      · exact step_engine_held hτ hheld
      · exact step_engine_halted hτ hhalted

/-! ## The engine's moves on a command, and the moves of the others in between (20_memory.md R54) -/

/-- The engine's move on the command `e` in flight: a write, or a read. `step_working` ties it to
`step`. -/
def engineMove (e : Entry) (s : State) : State :=
  match s.st with
  | .writing => afterWrite e s.txAnswer s.didWrite
  | .await => afterRead e s.rxAnswer s.didRead
  | .idle | .success | .failed | .halted => s

theorem engineMove_writing {s : State} (hst : s.st = .writing) (e : Entry) :
    engineMove e s = afterWrite e s.txAnswer s.didWrite := by rw [engineMove, hst]

theorem engineMove_await {s : State} (hst : s.st = .await) (e : Entry) :
    engineMove e s = afterRead e s.rxAnswer s.didRead := by rw [engineMove, hst]

/-- In `u` the engine is at work on the command `e`, and no event has been emitted since `s`. -/
structure Working (e : Entry) (s u : State) : Prop where
  st   : u.st = .writing ∨ u.st = .await
  cur  : u.cur = some e
  dlog : u.dlog = s.dlog
  elog : u.elog = s.elog

/-- The listed move of an engine at work is a write or a read for its command. -/
theorem step_working {e : Entry} {s u : State} (h : Working e s u) {more : List Turn}
    (hturns : u.turns = .engine :: more) :
    step u = .next (engineMove e { u with turns := more }) := by
  rw [step_eq_outcome_cons hturns, fetchTurn, fetchEngine_eq]
  obtain hst | hst := h.st
  · rw [engineMove_writing (s := { u with turns := more }) hst,
      ← exec_write (s := { u with turns := more }) hst h.cur]
    simp [hst, Fetched.outcome]
  · rw [engineMove_await (s := { u with turns := more }) hst,
      ← exec_recv (s := { u with turns := more }) hst h.cur]
    simp [hst, Fetched.outcome]

/-- A state without what the moves of the other agents write, and without the moves to come. -/
def State.engineView (s : State) : State :=
  { s with qh := [], ql := [], gen := 0, resp := [], waiting := [], wire := Wire.empty,
           turns := [] }

/-- What can be read off the engine's view is the same in states with the same view. -/
theorem State.eq_of_engineView {α : Type} {f : State → α} (hf : ∀ x : State, f x.engineView = f x)
    {u v : State} (h : u.engineView = v.engineView) : f u = f v := by
  rw [← hf u, h, hf v]

theorem State.failAttempt_engineView (s : State) (e : Entry) (err : ErrCode) :
    (s.failAttempt e err).engineView = s.engineView.failAttempt e err := by
  by_cases h : s.failCnt + 1 < 10
  · rw [State.failAttempt_retry h, State.failAttempt_retry (s := s.engineView) h]
    rfl
  · have hcap := Nat.le_of_not_lt h
    rw [State.failAttempt_exhaust hcap, State.failAttempt_exhaust (s := s.engineView) hcap]
    rfl

theorem afterRead_engineView (e : Entry) (a : RxAnswer) (s : State) :
    (afterRead e a s).engineView = afterRead e a s.engineView := by
  match a with
  | .lost => rfl
  | .exc | .bytes [] => exact s.failAttempt_engineView e _
  | .bytes (b :: bs) =>
    show (afterDecode e (decodeFrame s.cfg (b :: bs) e.cmd) s).engineView
      = afterDecode e (decodeFrame s.cfg (b :: bs) e.cmd) s.engineView
    cases decodeFrame s.cfg (b :: bs) e.cmd with
    | ok cmd p => rfl
    | error err => exact s.failAttempt_engineView e _

theorem afterWrite_engineView (e : Entry) (a : TxAnswer) (s : State) :
    (afterWrite e a s).engineView = afterWrite e a s.engineView := by
  cases a with
  | ok | lost => rfl
  | exc => exact s.failAttempt_engineView e _

/-- The engine's move does not depend on what the other agents write. -/
theorem engineMove_engineView (e : Entry) (s : State) :
    (engineMove e s).engineView = engineMove e s.engineView := by
  have hview : s.engineView.st = s.st := rfl
  unfold engineMove
  rw [hview]
  cases s.st with
  | writing => exact afterWrite_engineView e s.txAnswer s.didWrite
  | await => exact afterRead_engineView e s.rxAnswer s.didRead
  | _ => rfl

/-- The engine's move leaves the moves to come. -/
theorem engineMove_turns (e : Entry) (s : State) : (engineMove e s).turns = s.turns := by
  unfold engineMove
  cases s.st with
  | writing =>
    obtain ⟨-, h⟩ | ⟨-, h⟩ | ⟨-, h⟩ := afterWrite_cases e s.txAnswer s.didWrite <;> simp [h]
  | await =>
    obtain ⟨-, h⟩ | ⟨_, -, -, h⟩ | ⟨_, _, _, -, -, -, h⟩ :=
      afterRead_cases e s.rxAnswer s.didRead <;> simp [h]
  | _ => rfl

/-- What the engine sees of a state says whether it is at work. -/
theorem Working.of_engineView {e : Entry} {s u v : State} (h : Working e s u)
    (hview : v.engineView = u.engineView) : Working e s v where
  st   := (State.eq_of_engineView (f := State.st) (fun _ => rfl) hview).symm ▸ h.st
  cur  := (State.eq_of_engineView (f := State.cur) (fun _ => rfl) hview).trans h.cur
  dlog := (State.eq_of_engineView (f := State.dlog) (fun _ => rfl) hview).trans h.dlog
  elog := (State.eq_of_engineView (f := State.elog) (fun _ => rfl) hview).trans h.elog

/-- A listed move of another agent but RST leaves what the engine sees. -/
theorem step_other_engineView {u : State} {τ : Turn} {more : List Turn}
    (hturns : u.turns = τ :: more) (hτ : τ ≠ .engine) (hr : τ.asksRst = false) :
    ∃ v, step u = .next v ∧ v.turns = more ∧ v.engineView = u.engineView := by
  obtain ⟨hturn, hdid⟩ := u.nextTurn_cons τ more hturns
  obtain ⟨_, _, _, _, _, _, hstep⟩ := step_other u (hturn ▸ hτ) (hturn ▸ hr)
  rw [hdid] at hstep
  exact ⟨_, hstep, rfl, rfl⟩

/-- For the engine at work, a run with moves of the other agents but RST in between is the run of
its own moves. -/
theorem runs_interleaved {e : Entry} {s : State} {ts more : List Turn}
    (hturns : s.turns = ts ++ more) (hrst : ∀ τ ∈ ts, τ.asksRst = false)
    (hwork : ∀ i < ts.count .engine, Working e s ((engineMove e)^[i] s)) :
    ∃ t, s.runs ts.length = some t ∧ t.turns = more ∧
      t.engineView = ((engineMove e)^[ts.count .engine] s).engineView := by
  induction ts using List.reverseRecOn generalizing more with
  | nil => exact ⟨s, rfl, hturns, rfl⟩
  | append_singleton ts τ ih =>
    rw [List.count_append] at hwork ⊢
    obtain ⟨u, hruns, hu, hview⟩ := ih (more := τ :: more) (by simpa using hturns)
      (fun x hx => hrst x (by simp [hx])) (fun i hi => hwork i (by omega))
    have hnext {v : State} (hv : step u = .next v) : s.runs (ts ++ [τ]).length = some v := by
      rw [List.length_append, State.runs_add, hruns]
      exact State.runs_succ hv 0
    by_cases hτ : τ = .engine
    · subst hτ
      have hstep := step_working ((hwork _ (by simp)).of_engineView hview) hu
      refine ⟨_, hnext hstep, engineMove_turns e _, ?_⟩
      have hiter : (engineMove e)^[ts.count .engine + 1] s =
          engineMove e ((engineMove e)^[ts.count .engine] s) :=
        Function.iterate_succ_apply' ..
      rw [List.count_singleton_self, hiter, engineMove_engineView, engineMove_engineView, ← hview]
      rfl
    · obtain ⟨v, hstep, hv, hkept⟩ := step_other_engineView hu hτ (hrst τ (by simp))
      have hcount : [τ].count .engine = 0 := by simp [hτ]
      exact ⟨v, hnext hstep, hv, by rw [hcount, Nat.add_zero, hkept, hview]⟩

/-! ## Attempts (R111) -/

/-- In WRITING the engine is about to make the attempts `as` of the command `e`: what `Attempting`
says apart from the schedule. -/
structure Pending (s : State) (e : Entry) (as : List Attempt) (tx : List TxAnswer)
    (rx : List RxAnswer) : Prop where
  st   : s.st = .writing
  cur  : s.cur = some e
  txIn : s.txIn = as.map Attempt.tx ++ tx
  rxIn : s.rxIn = as.filterMap id ++ rx

/-- The engine's moves in these attempts. -/
def attemptSteps (as : List Attempt) : Nat := (as.map Attempt.steps).sum

theorem attemptSteps_append (as : List Attempt) (a : Attempt) :
    attemptSteps (as ++ [a]) = attemptSteps as + a.steps := by simp [attemptSteps]

theorem writes_append (calls calls' : List LinkCall) :
    writes (calls ++ calls') = writes calls ++ writes calls' := List.filter_append ..

theorem State.txAnswer_cons {s : State} {a : TxAnswer} {tx : List TxAnswer} (h : s.txIn = a :: tx) :
    s.txAnswer = a := by simp [State.txAnswer, h]

theorem State.rxAnswer_cons {s : State} {a : RxAnswer} {rx : List RxAnswer} (h : s.rxIn = a :: rx) :
    s.rxAnswer = clipRx s.cfg.rxMax a := by simp [State.rxAnswer, h]

/-- The error of an attempt with a read is the code RECV counts for the answer cut to RX_MAX. -/
theorem attemptError_some (cfg : Config) (cmd : Byte) (a : RxAnswer) :
    Attempt.error cfg cmd (some a) = readError cfg cmd (clipRx cfg.rxMax a) := by
  cases a with
  | exc | lost => rfl
  | bytes b =>
    simp only [Attempt.error, clipRx]
    cases b.take cfg.rxMax with
    | nil => rfl
    | cons b bs =>
      cases hd : decodeFrame cfg (b :: bs) cmd <;> simp [readError, hd]

section
variable {s : State} {e : Entry} {tx : List TxAnswer} {rx : List RxAnswer}

/-- A write answered Ok (R112). -/
theorem engineMove_ok (hst : s.st = .writing) (htx : s.txIn = .ok :: tx) :
    engineMove e s = { s with st := .await, link := s.link ++ [.write s.frame], txIn := tx,
                              draws := s.draws + 1 } := by
  rw [engineMove_writing hst, State.txAnswer_cons htx, State.didWrite, htx]
  rfl

/-- The engine is at work until the last move of an attempt. -/
theorem Pending.working_one {a : Attempt} (h : Pending s e [a] tx rx) {i : Nat} (hi : i < a.steps) :
    Working e s ((engineMove e)^[i] s) := by
  have hstart : Working e s s := ⟨.inl h.st, h.cur, rfl, rfl⟩
  match a, i with
  | _, 0 => exact hstart
  | some x, 1 =>
    show Working e s (engineMove e s)
    rw [engineMove_ok h.st h.txIn]
    exact { hstart with st := .inr rfl }
  | none, i + 1 | some x, i + 2 => simp [Attempt.steps] at hi

/-- An attempt that fails writes the frame once and is accounted with its error (R112 to R114). -/
theorem Pending.fail_one {a : Attempt} (h : Pending s e [a] tx rx) {err : ErrCode}
    (herr : Attempt.error s.cfg e.cmd a = some err) :
    ∃ st link draws, writes link = writes s.link ++ [.write s.frame] ∧
      (engineMove e)^[a.steps] s = State.failAttempt
        { s with st := st, link := link, draws := draws, txIn := tx, rxIn := rx } e err := by
  obtain ⟨hst, -, htx, hrx⟩ := h
  cases a with
  | none =>
    obtain rfl : .transportException = err := Option.some_inj.1 herr
    obtain rfl : s.rxIn = rx := hrx
    refine ⟨s.st, s.link ++ [.write s.frame], s.draws + 1, writes_append .., ?_⟩
    show engineMove e s = _
    rw [engineMove_writing hst, State.txAnswer_cons htx, State.didWrite, htx]
    rfl
  | some x =>
    refine ⟨.await, s.link ++ [.write s.frame] ++ [.read s.cfg.rxMax], s.draws + 1 + 1, ?_, ?_⟩
    · rw [writes_append, writes_append]
      exact List.append_nil _
    · show engineMove e (engineMove e s) = _
      rw [attemptError_some] at herr
      rw [engineMove_ok hst htx, engineMove_await rfl, State.rxAnswer_cons (by exact hrx),
        afterRead_of_readError (by exact herr)]
      simp only [State.didRead, hrx]
      rfl

/-- The last of the attempts is what follows the others. -/
theorem Pending.init {as bs : List Attempt} (h : Pending s e (as ++ bs) tx rx) :
    Pending s e as (bs.map Attempt.tx ++ tx) (bs.filterMap id ++ rx) where
  st   := h.st
  cur  := h.cur
  txIn := by rw [h.txIn, List.map_append, List.append_assoc]
  rxIn := by rw [h.rxIn, List.filterMap_append, List.append_assoc]

/-- Fewer than ten attempts that fail are counted, and the engine is about to make the next one;
each wrote the frame once (R114). -/
theorem Pending.fail_all {as : List Attempt} (h : Pending s e as tx rx)
    (hcnt : s.failCnt + as.length < 10)
    (hfail : ∀ a ∈ as, (Attempt.error s.cfg e.cmd a).isSome = true) :
    ∃ link draws,
      writes link = writes s.link ++ List.replicate as.length (.write s.frame) ∧
      (engineMove e)^[attemptSteps as] s =
        { s with failCnt := s.failCnt + as.length,
                 lastErr := (as.getLast?.bind (Attempt.error s.cfg e.cmd)).getD s.lastErr,
                 link := link, draws := draws, txIn := tx, rxIn := rx } := by
  induction as using List.reverseRecOn generalizing tx rx with
  | nil =>
    obtain ⟨-, -, htx, hrx⟩ := h
    obtain rfl : s.txIn = tx := htx
    obtain rfl : s.rxIn = rx := hrx
    exact ⟨s.link, s.draws, (List.append_nil _).symm, rfl⟩
  | append_singleton as a ih =>
    rw [List.length_append, List.length_singleton] at hcnt
    obtain ⟨link, draws, hlink, hrun⟩ :=
      ih h.init (by omega) (fun x hx => hfail x (by simp [hx]))
    obtain ⟨err, herr⟩ := Option.isSome_iff_exists.1 (hfail a (by simp))
    have hnext : Pending ((engineMove e)^[attemptSteps as] s) e [a] tx rx :=
      hrun ▸ ⟨h.st, h.cur, rfl, rfl⟩
    obtain ⟨st, link', draws', hlink', hrun'⟩ := hnext.fail_one (err := err) (by rw [hrun, herr])
    refine ⟨link', draws', ?_, ?_⟩
    · rw [hlink', hrun, hlink, List.append_assoc, List.length_append, List.length_singleton,
        List.replicate_succ']
    · rw [attemptSteps_append, Nat.add_comm, Function.iterate_add_apply, hrun', hrun,
        State.failAttempt_retry (by simpa [Nat.add_assoc] using hcnt), ← h.st]
      simp [herr, Nat.add_assoc]

/-- After attempts that fail the engine is about to make the one after them. -/
theorem Pending.next {as : List Attempt} {a : Attempt} (h : Pending s e (as ++ [a]) tx rx)
    (hcnt : s.failCnt + as.length < 10)
    (hfail : ∀ a ∈ as, (Attempt.error s.cfg e.cmd a).isSome = true) :
    Pending ((engineMove e)^[attemptSteps as] s) e [a] tx rx := by
  obtain ⟨link, draws, -, hrun⟩ := h.init.fail_all hcnt hfail
  exact hrun ▸ ⟨h.st, h.cur, rfl, rfl⟩

/-- The engine is at work until the last move of the last attempt, where those before it fail and
are fewer than the cap allows. -/
theorem Pending.working {as : List Attempt} {a : Attempt} (h : Pending s e (as ++ [a]) tx rx)
    (hcnt : s.failCnt + as.length < 10)
    (hfail : ∀ a ∈ as, (Attempt.error s.cfg e.cmd a).isSome = true) {i : Nat}
    (hi : i < attemptSteps (as ++ [a])) : Working e s ((engineMove e)^[i] s) := by
  induction as using List.reverseRecOn generalizing a tx rx with
  | nil => exact Pending.working_one h (by simpa [attemptSteps] using hi)
  | append_singleton as b ih =>
    obtain hlt | hge := Nat.lt_or_ge i (attemptSteps (as ++ [b]))
    · rw [List.length_append] at hcnt
      exact ih h.init (by omega) (fun x hx => hfail x (by simp [hx])) hlt
    · obtain ⟨j, rfl⟩ := Nat.exists_eq_add_of_le' hge
      have hj : j < a.steps := by rw [attemptSteps_append (as ++ [b])] at hi; omega
      have hwork := (h.next hcnt hfail).working_one hj
      obtain ⟨link, draws, -, hrun⟩ := h.init.fail_all hcnt hfail
      rw [Function.iterate_add_apply]
      exact { hwork with
        dlog := hwork.dlog.trans (by rw [hrun])
        elog := hwork.elog.trans (by rw [hrun]) }

end

/-! ## The retry-cap law and the success law (R122, R123) -/

/-- What `Attempting` says of the engine. -/
theorem attempting_pending {s : State} {e : Entry} {as : List Attempt} {tx : List TxAnswer}
    {rx : List RxAnswer} {ts more : List Turn} (h : Attempting s e as tx rx ts more) :
    Pending s e as tx rx := ⟨h.st, h.cur, h.txIn, h.rxIn⟩

section
variable {s : State} {e : Entry} {as : List Attempt} {a : Attempt} {tx : List TxAnswer}
  {rx : List RxAnswer} {ts more : List Turn} (h : Attempting s e (as ++ [a]) tx rx ts more)
  (hcnt : s.failCnt + as.length < 10)
  (hfail : ∀ a ∈ as, (Attempt.error s.cfg e.cmd a).isSome = true)
include h hcnt hfail

/-- Attempts of which those before the last fail: the whole run is the engine's own moves. -/
theorem runs_attempting :
    ∃ t, s.runs ts.length = some t ∧
      t.engineView =
        ((engineMove e)^[a.steps] ((engineMove e)^[attemptSteps as] s)).engineView := by
  have hcount : ts.count .engine = attemptSteps (as ++ [a]) := h.moves.engine
  obtain ⟨t, hruns, -, hview⟩ := runs_interleaved h.turns h.moves.noRst fun i hi =>
    (attempting_pending h).working hcnt hfail (hcount ▸ hi)
  rw [hcount, attemptSteps_append, Nat.add_comm, Function.iterate_add_apply] at hview
  exact ⟨t, hruns, hview⟩

/-- Before the engine's last move no event is emitted. -/
theorem runs_attempting_events {k : Nat} {u : State}
    (hk : (ts.take k).count .engine < attemptSteps (as ++ [a])) (hu : s.runs k = some u) :
    u.elog = s.elog ∧ u.dlog = s.dlog := by
  have hle : k ≤ ts.length := by
    by_contra hlt
    rw [List.take_of_length_le (Nat.le_of_not_le hlt)] at hk
    exact absurd h.moves.engine hk.ne
  have hturns : s.turns = ts.take k ++ (ts.drop k ++ more) := by
    rw [← List.append_assoc, List.take_append_drop, h.turns]
  have hwork {i : Nat} (hi : i < attemptSteps (as ++ [a])) :=
    (attempting_pending h).working hcnt hfail hi
  obtain ⟨t, hruns, -, hview⟩ := runs_interleaved hturns
    (fun τ hτ => h.moves.noRst τ (List.mem_of_mem_take hτ)) fun i hi => hwork (hi.trans hk)
  rw [List.length_take_of_le hle, hu] at hruns
  obtain rfl : u = t := Option.some_inj.1 hruns
  have hquiet := (hwork hk).of_engineView hview
  exact ⟨hquiet.elog, hquiet.dlog⟩

end

/-- Settles O42: nine attempts are counted, and the tenth exhausts the budget. -/
theorem retryCap : Obligations.RetryCap := by
  unfold Obligations.RetryCap
  intro s e as tx rx ts more err h hzero hlen hfail herr
  obtain rfl | ⟨as, a, rfl⟩ := as.eq_nil_or_concat'
  · cases hlen
  have hnine : as.length = 9 := by simpa using hlen
  have hcnt : s.failCnt + as.length < 10 := by omega
  have hfail' : ∀ x ∈ as, (Attempt.error s.cfg e.cmd x).isSome = true :=
    fun x hx => hfail x (by simp [hx])
  refine ⟨?_, fun k u hk hu => runs_attempting_events h hcnt hfail' hk hu⟩
  have hpending := attempting_pending h
  obtain ⟨link, draws, hlink, hrun⟩ := hpending.init.fail_all hcnt hfail'
  obtain ⟨st, link', draws', hlink', hrun'⟩ :=
    (hpending.next hcnt hfail').fail_one (err := err) (by simpa [hrun] using herr)
  obtain ⟨t, hruns, hview⟩ := runs_attempting h hcnt hfail'
  rw [hrun', State.failAttempt_exhaust (by simp [hrun, hnine]), hrun] at hview
  rw [hrun, hlink] at hlink'
  have hfield {α : Type} (f : State → α) (hf : ∀ x : State, f x.engineView = f x) :=
    State.eq_of_engineView hf hview
  refine ⟨t, _, hruns, hfield State.st fun _ => rfl, ?_, hfield State.lastErr fun _ => rfl,
    hfield State.dlog fun _ => rfl, hfield State.elog fun _ => rfl, ?_⟩
  · rw [hfield State.failCnt fun _ => rfl]
    simp [hzero, hnine]
  · rw [hfield State.link fun _ => rfl]
    simpa [hnine] using hlink'

/-- An attempt whose response decodes is dispatched (R113, R118). -/
theorem Pending.succeed_one {s : State} {e : Entry} {b p : List Byte} {cmd : Byte}
    {tx : List TxAnswer} {rx : List RxAnswer} (h : Pending s e [some (.bytes b)] tx rx)
    (hb : b.take s.cfg.rxMax ≠ []) (hd : decodeFrame s.cfg (b.take s.cfg.rxMax) e.cmd = .ok cmd p) :
    ∃ link draws, (engineMove e)^[2] s = State.succeed
      { s with st := .await, link := link, draws := draws, txIn := tx, rxIn := rx } e cmd p := by
  obtain ⟨hst, -, htx, hrx⟩ := h
  refine ⟨s.link ++ [.write s.frame] ++ [.read s.cfg.rxMax], s.draws + 1 + 1, ?_⟩
  show engineMove e (engineMove e s) = _
  rw [engineMove_ok hst htx, engineMove_await rfl, State.rxAnswer_cons (by exact hrx), clipRx,
    afterRead_of_decode_ok (by exact hb) (by exact hd)]
  simp only [State.didRead, hrx]
  rfl

/-- Settles O43: the attempts before the last are counted, and the last resets the counter and is
dispatched. -/
theorem successAfterRetries : Obligations.SuccessAfterRetries := by
  unfold Obligations.SuccessAfterRetries
  intro s e as b cmd p tx rx ts more h hzero hnone hlen hfail hb hd
  have hcnt : s.failCnt + as.length < 10 := by omega
  refine ⟨?_, fun k u hk hu => runs_attempting_events h hcnt hfail
    (by rwa [attemptSteps_append]) hu⟩
  have hpending := attempting_pending h
  obtain ⟨link, draws, -, hrun⟩ := hpending.init.fail_all hcnt hfail
  obtain ⟨link', draws', hrun'⟩ := (hpending.next hcnt hfail).succeed_one (cmd := cmd) (p := p)
    (by rwa [hrun]) (by rwa [hrun])
  obtain ⟨t, hruns, hview⟩ := runs_attempting h hcnt hfail
  rw [Attempt.steps, hrun', hrun] at hview
  have hfield {α : Type} (f : State → α) (hf : ∀ x : State, f x.engineView = f x) :=
    State.eq_of_engineView hf hview
  refine ⟨t, hruns, hfield State.st fun _ => rfl, hfield State.failCnt fun _ => rfl,
    hfield State.elog fun _ => rfl, hfield State.dlog fun _ => rfl, ?_⟩
  rw [hfield State.lastErr fun _ => rfl, ← hnone]
  rfl

end Sys2Proof.Machine

/-! # Exceptions

Which check on a received buffer Decode reports (60_exceptions.md R133), and what can stop the
block: a state that meets R33 always has a next state (R137), and only a lost handle halts the engine
(R120). -/

namespace Sys2Proof.Machine

open Claims

/-! ## The checks of Decode in their order (R133; 40_codec.md R89 to R91) -/

/-- A buffer that does not unstuff is malformed. -/
theorem decodeFrame_of_unstuffBytes_error {cfg : Config} {raw : List Byte} {e : FrameError}
    (h : unstuffBytes cfg.loneEsc raw = .error e) (exp : Byte) :
    decodeFrame cfg raw exp = .error .malformedFrame := by
  obtain rfl := eq_malformedFrame_of_unstuffBytes h
  rw [decodeFrame, h]

/-- A buffer that unstuffs is answered as its unstuffed bytes are checked. -/
theorem decodeFrame_of_unstuffBytes_ok {cfg : Config} {raw f : List Byte}
    (h : unstuffBytes cfg.loneEsc raw = .ok f) (exp : Byte) :
    decodeFrame cfg raw exp = checkFrame cfg exp f := by
  rw [decodeFrame, h]

section
variable {cfg : Config} {exp : Byte} {f : List Byte}

/-- A wrong or missing START is reported before everything else. -/
theorem checkFrame_wrongStart (hstart : f[0]? ≠ some start) :
    checkFrame cfg exp f = .error .headerMismatch := if_pos hstart

/-- A wrong or missing RTU_ID is reported next. -/
theorem checkFrame_wrongRtu (hstart : f[0]? = some start) (hrtu : f[1]? ≠ some cfg.rtuId) :
    checkFrame cfg exp f = .error .rtuMismatch := by
  rw [checkFrame, if_neg (not_not.2 hstart), if_pos hrtu]

/-- Bytes that end before the command id are too short (R90). -/
theorem checkFrame_short (hstart : f[0]? = some start) (hrtu : f[1]? = some cfg.rtuId)
    (hshort : f.length < 5) : checkFrame cfg exp f = .error .lengthMismatch := by
  rw [checkFrame, if_neg (not_not.2 hstart), if_neg (not_not.2 hrtu), if_pos hshort]

end

section
variable (cfg : Config) (l0 l1 : Byte) (tail : List Byte)

/-- From five bytes on, what follows START and RTU_ID is checked for the command first. -/
theorem checkFrame_wrongCmd {cmd exp : Byte} (hcmd : cmd ≠ exp) :
    checkFrame cfg exp (start :: cfg.rtuId :: l0 :: l1 :: cmd :: tail)
      = .error .commandMismatch := by
  simp [checkFrame, cmdOffset, hcmd]

/-- Then LEN is to be at least 1 and to agree with the number of bytes (R91). -/
theorem checkFrame_wrongLen (cmd : Byte) {len : Nat} (hlen : len = l0.toNat + 256 * l1.toNat)
    (hwrong : len = 0 ∨ tail.length + 5 ≠ len + 6) :
    checkFrame cfg cmd (start :: cfg.rtuId :: l0 :: l1 :: cmd :: tail)
      = .error .lengthMismatch := by
  have hfield : lenField (start :: cfg.rtuId :: l0 :: l1 :: cmd :: tail) = len :=
    (u16Of_toNat l0 l1).trans hlen.symm
  have hbad : len < 1 ∨ tail.length + 5 ≠ cmdOffset + len + 2 := by rw [cmdOffset]; omega
  rw [checkFrame, if_neg (by simp), if_neg (by simp), if_neg (by simp),
    if_neg (by simp [cmdOffset]), hfield]
  exact if_pos hbad

/-- Bytes that end in two checksum bytes are a frame's. -/
theorem cons_eq_frameBytes (rtu cmd c0 c1 : Byte) (p : List Byte) :
    start :: rtu :: l0 :: l1 :: cmd :: (p ++ [c0, c1])
      = frameBytes rtu (u16Of l0 l1) cmd p (u16Of c0 c1) := by
  simp [frameBytes, bytesOfU16]

/-- Last comes the checksum, over the bytes before it. -/
theorem checkFrame_rightLen (cmd c0 c1 : Byte) {p : List Byte}
    (hlen : p.length + 1 = l0.toNat + 256 * l1.toNat) :
    checkFrame cfg cmd (start :: cfg.rtuId :: l0 :: l1 :: cmd :: (p ++ [c0, c1])) =
      if c1 ++ c0 ≠ checksumLoop cfg.cksumTable 0#16
          (start :: cfg.rtuId :: l0 :: l1 :: cmd :: p) then .error .checksumMismatch
      else .ok cmd p := by
  rw [cons_eq_frameBytes, checkFrame_frameBytes, if_neg (not_not.2 rfl), if_neg (not_not.2 rfl),
    if_neg (not_not.2 ((u16Of_toNat l0 l1).trans hlen.symm)), checksum_eq_checksumLoop,
    loByte_u16Of, hiByte_u16Of]
  rfl

end

/-- Settles O16: one lemma per check, each under the negation of the checks before it. -/
theorem decodeChecksInOrder : Obligations.DecodeChecksInOrder := by
  unfold Obligations.DecodeChecksInOrder
  intro cfg raw exp
  refine ⟨fun e h => decodeFrame_of_unstuffBytes_error h exp, fun f h => ?_⟩
  rw [decodeFrame_of_unstuffBytes_ok h]
  refine ⟨checkFrame_wrongStart, checkFrame_wrongRtu, checkFrame_short, ?_⟩
  rintro l0 l1 cmd tail rfl
  refine ⟨checkFrame_wrongCmd cfg l0 l1 tail, ?_⟩
  rintro rfl len hlen
  refine ⟨checkFrame_wrongLen cfg l0 l1 tail cmd hlen, ?_⟩
  rintro p c0 c1 rfl rfl
  have hcheck := checkFrame_rightLen cfg l0 l1 cmd c0 c1 hlen
  exact ⟨fun hck => hcheck.trans (if_pos hck), fun hck => hcheck.trans (if_neg (not_not.2 hck))⟩

/-! ## What stops the block (R137), and what halts the engine (R120) -/

/-- The engine's move has a next state: R33(ii) gives WRITING and AWAIT their command in flight. -/
theorem step_engine_next {s : State} (hi : s.Inv) (hτ : s.nextTurn = .engine) :
    ∃ t, step s = .next t := by
  rw [step_engine hτ, fetchEngine_eq]
  have hi := hi.didTurn
  generalize s.didTurn = u at hi
  cases hst : u.st with
  | idle | success | failed | halted => exact ⟨_, rfl⟩
  | writing =>
    obtain ⟨e, hcur, -, -⟩ := hi.inFlight (.inl hst)
    exact ⟨_, exec_write hst hcur⟩
  | await =>
    obtain ⟨e, hcur, -, -⟩ := hi.inFlight (.inr hst)
    exact ⟨_, exec_recv hst hcur⟩

/-- The move of another agent than the engine has a next state in every state. -/
theorem step_other_next {s : State} (hτ : s.nextTurn ≠ .engine) : ∃ t, step s = .next t := by
  cases hr : s.nextTurn.asksRst with
  | true =>
    obtain ⟨bytes, hτ, hd⟩ := asksRst_iff.1 hr
    exact ⟨_, step_rst hτ hd⟩
  | false =>
    obtain ⟨_, _, _, _, _, _, hstep⟩ := step_other s hτ hr
    exact ⟨_, hstep⟩

/-- A failed attempt is retried or exhausts the budget; it never halts the engine (R114). -/
theorem State.failAttempt_st_ne_halted (s : State) (e : Entry) (err : ErrCode) :
    (s.failAttempt e err).st ≠ .halted := by
  rw [s.failAttempt_st]
  split <;> exact nofun

/-- Of the answers to a write only Lost halts the engine (R112). -/
theorem eq_lost_of_afterWrite_halted {e : Entry} {a : TxAnswer} {s : State}
    (h : (afterWrite e a s).st = .halted) : a = .lost := by
  obtain ⟨-, heq⟩ | ⟨-, heq⟩ | ⟨hlost, -⟩ := afterWrite_cases e a s
  · cases heq ▸ h
  · exact absurd (heq ▸ h) (s.failAttempt_st_ne_halted e _)
  · exact hlost

/-- Of the answers to a read only Lost halts the engine (R113). -/
theorem eq_lost_of_afterRead_halted {e : Entry} {a : RxAnswer} {s : State}
    (h : (afterRead e a s).st = .halted) : a = .lost := by
  obtain ⟨hlost, -⟩ | ⟨err, -, -, heq⟩ | ⟨_, _, _, -, -, -, heq⟩ := afterRead_cases e a s
  · exact hlost
  · exact absurd (heq ▸ h) (s.failAttempt_st_ne_halted e err)
  · cases heq ▸ h

/-- The effect that halts the engine is its write or its read, answered Lost. -/
theorem Effect.lost_of_halted {τ : Turn} {s t : State} (h : Effect τ s t) (hs : s.st ≠ .halted)
    (ht : t.st = .halted) :
    τ = .engine ∧
      ((s.st = .writing ∧ s.txAnswer = .lost) ∨ (s.st = .await ∧ s.rxAnswer = .lost)) := by
  cases h with
  | write e hτ hst => exact ⟨hτ, .inl ⟨hst, eq_lost_of_afterWrite_halted ht⟩⟩
  | recv e hτ hst => exact ⟨hτ, .inr ⟨hst, eq_lost_of_afterRead_halted ht⟩⟩
  | stay | wire | answer | park | push | clear => exact absurd (by simpa using ht) hs
  | reset | launch | complete | resume => cases ht

/-- Settles O47: the only fault is a write or a read with no command in flight, which R33(ii)
excludes; and of the effects of a step only a call answered Lost halts. -/
theorem stepNeverStops : Obligations.StepNeverStops := by
  unfold Obligations.StepNeverStops
  refine ⟨fun s hi => ?_, fun s t h hs ht => ?_⟩
  · by_cases hτ : s.nextTurn = .engine
    · exact step_engine_next hi hτ
    · exact step_other_next hτ
  · obtain ⟨waiting, he⟩ := step_effect h
    have htx : State.txAnswer { s.didTurn with waiting := waiting } = s.didTurn.txAnswer := rfl
    have hrx : State.rxAnswer { s.didTurn with waiting := waiting } = s.didTurn.rxAnswer := rfl
    have hlost := he.lost_of_halted (by simpa using hs) ht
    rw [htx, hrx] at hlost
    simpa using hlost

end Sys2Proof.Machine

/-! # Reset and hazards

That a command in flight ends (70_reset_and_hazards.md R158): every call on the transport uses up
one of the 2·MAX_RETRY that the retry budget allows, and the moves of the other agents use up
none. -/

namespace Sys2Proof.Machine

open Claims

/-- The command in flight has ended: the engine is in SUCCESS, FAILED or HALTED. -/
def State.Ended (s : State) : Prop := s.st = .success ∨ s.st = .failed ∨ s.st = .halted

/-- A command is in flight and has ended, or at most `n` more calls on the transport end it: each
attempt left in the budget takes two, and in AWAIT the write of the present one is made (R112 to
R114). `engineMove_endsWithin` ties it to the engine's move. -/
def State.EndsWithin (n : Nat) (s : State) : Prop :=
  match s.st with
  | .idle => False
  | .writing => 2 * maxRetry ≤ n + 2 * s.failCnt
  | .await => 2 * maxRetry ≤ n + 1 + 2 * s.failCnt
  | .success | .failed | .halted => True

section
variable {s : State} {n : Nat}

theorem State.endsWithin_writing (hst : s.st = .writing) :
    s.EndsWithin n ↔ 2 * maxRetry ≤ n + 2 * s.failCnt := by rw [State.EndsWithin, hst]

theorem State.endsWithin_await (hst : s.st = .await) :
    s.EndsWithin n ↔ 2 * maxRetry ≤ n + 1 + 2 * s.failCnt := by rw [State.EndsWithin, hst]

theorem State.EndsWithin.ended_or (h : s.EndsWithin n) :
    s.Ended ∨ s.st = .writing ∨ s.st = .await := by
  cases hst : s.st with
  | idle => rw [State.EndsWithin, hst] at h; exact h.elim
  | writing => exact .inr (.inl rfl)
  | await => exact .inr (.inr rfl)
  | success => exact .inl (.inl hst)
  | failed => exact .inl (.inr (.inl hst))
  | halted => exact .inl (.inr (.inr hst))

/-- A command that no further call may end has ended: R33(ii) leaves one at work some budget. -/
theorem State.EndsWithin.ended (h : s.EndsWithin 0) (hi : s.Inv) : s.Ended := by
  obtain hended | hst := h.ended_or
  · exact hended
  · obtain ⟨_, -, -, hcnt⟩ := hi.inFlight hst
    obtain hst | hst := hst
    · have := (State.endsWithin_writing hst).1 h
      omega
    · have := (State.endsWithin_await hst).1 h
      omega

/-- A failed attempt leaves the budget of the attempts after it, or ends the command (R114). -/
theorem State.failAttempt_endsWithin (h : 2 * maxRetry ≤ n + 2 * (s.failCnt + 1)) (e : Entry)
    (err : ErrCode) : (s.failAttempt e err).EndsWithin n := by
  obtain ⟨-, heq⟩ | ⟨-, heq⟩ := s.failAttempt_cases e err <;> rw [heq]
  · exact h
  · trivial

/-- A call on the transport brings the end of the command one call nearer, whatever the answer. -/
theorem engineMove_endsWithin (hst : s.st = .writing ∨ s.st = .await) (h : s.EndsWithin (n + 1))
    (e : Entry) : (engineMove e s).EndsWithin n := by
  obtain hst | hst := hst
  · rw [State.endsWithin_writing hst] at h
    rw [engineMove_writing hst]
    obtain ⟨-, heq⟩ | ⟨-, heq⟩ | ⟨-, heq⟩ := afterWrite_cases e s.txAnswer s.didWrite <;> rw [heq]
    · exact h
    · have hcnt : s.didWrite.failCnt = s.failCnt := s.didWrite_failCnt
      exact State.failAttempt_endsWithin (by omega) e _
    · trivial
  · rw [State.endsWithin_await hst] at h
    rw [engineMove_await hst]
    obtain ⟨-, heq⟩ | ⟨err, -, -, heq⟩ | ⟨_, _, _, -, -, -, heq⟩ :=
      afterRead_cases e s.rxAnswer s.didRead <;> rw [heq]
    · trivial
    · have hcnt : s.didRead.failCnt = s.failCnt := s.didRead_failCnt
      exact State.failAttempt_endsWithin (by omega) e err
    · trivial

/-- The move of an engine at work is one call on the transport (R112, R113). -/
theorem engineMove_link_length (hst : s.st = .writing ∨ s.st = .await) (e : Entry) :
    (engineMove e s).link.length = s.link.length + 1 := by
  obtain hst | hst := hst
  · simp [engineMove_writing hst]
  · simp [engineMove_await hst]

/-- While the command has not ended, a listed move but RST keeps the bound, and the engine's lowers
it by the one call it makes. -/
theorem step_endsWithin {τ : Turn} {more : List Turn} (hi : s.Inv)
    (hst : s.st = .writing ∨ s.st = .await) (hturns : s.turns = τ :: more)
    (hr : τ.asksRst = false) (h : s.EndsWithin (n + [τ].count .engine)) :
    ∃ t, step s = .next t ∧ t.turns = more ∧ t.EndsWithin n ∧
      t.link.length = s.link.length + [τ].count .engine := by
  by_cases hτ : τ = .engine
  · subst hτ
    rw [List.count_singleton_self] at h ⊢
    obtain ⟨e, hcur, -, -⟩ := hi.inFlight hst
    have hwork : Working e s s := ⟨hst, hcur, rfl, rfl⟩
    exact ⟨_, step_working hwork hturns, engineMove_turns e _,
      engineMove_endsWithin (s := { s with turns := more }) hst h e,
      engineMove_link_length (s := { s with turns := more }) hst e⟩
  · have hcount : [τ].count .engine = 0 := by simp [hτ]
    rw [hcount] at h ⊢
    obtain ⟨t, hstep, ht, hview⟩ := step_other_engineView hturns hτ hr
    have hends : t.EndsWithin n = s.EndsWithin n :=
      State.eq_of_engineView (f := State.EndsWithin n) (fun _ => rfl) hview
    have hlink : t.link = s.link := State.eq_of_engineView (f := State.link) (fun _ => rfl) hview
    exact ⟨t, hstep, ht, hends.mpr h, by rw [hlink]; rfl⟩

/-- A command ends in the course of moves but RST that hold as many of the engine's as it may still
take calls, and until then each of the engine's is one call. -/
theorem runs_ended {ts more : List Turn} (hi : s.Inv) (hturns : s.turns = ts ++ more)
    (hrst : ∀ τ ∈ ts, τ.asksRst = false) (h : s.EndsWithin (ts.count .engine)) :
    ∃ k t, k ≤ ts.length ∧ s.runs k = some t ∧ t.Ended ∧
      t.link.length = s.link.length + (ts.take k).count .engine := by
  induction ts generalizing s with
  | nil => exact ⟨0, s, le_rfl, rfl, h.ended hi, rfl⟩
  | cons τ ts ih =>
    have hcount (l : List Turn) : (τ :: l).count .engine = l.count .engine + [τ].count .engine := by
      rw [Nat.add_comm, ← List.count_append, List.singleton_append]
    obtain ⟨hr, hrst⟩ := List.forall_mem_cons.1 hrst
    obtain hended | hst := h.ended_or
    · exact ⟨0, s, Nat.zero_le _, rfl, hended, rfl⟩
    · obtain ⟨u, hstep, hu, hends, hlink⟩ :=
        step_endsWithin hi hst hturns hr (hcount ts ▸ h)
      obtain ⟨k, t, hk, hruns, hended, hlen⟩ := ih (step_inv hi hstep) hu hrst hends
      refine ⟨k + 1, t, Nat.succ_le_succ hk, (State.runs_succ hstep k).trans hruns, hended, ?_⟩
      rw [hlen, hlink, List.take_succ_cons, hcount (ts.take k)]
      omega

end

/-- Settles O44: from WRITING twenty calls on the transport end any command. -/
theorem everyCommandEnds : Obligations.EveryCommandEnds := by
  unfold Obligations.EveryCommandEnds
  intro s ts more hi hst hturns hmoves
  have hbudget : s.EndsWithin (ts.count .engine) := by
    rw [State.endsWithin_writing hst, hmoves.engine]
    exact Nat.le_add_right ..
  exact runs_ended hi hturns hmoves.noRst hbudget

end Sys2Proof.Machine
